-- ==== Sys2Proof/Word.lean ====
section
/-! DEFINITION. The bit vectors that the spec treats as bits: bytes, 24-bit addresses, 64-bit command words. -/

namespace Sys2Proof

/-- One byte of a buffer, of INIT_ROM or of the transport (R34, R82 to R84). -/
abbrev Byte := BitVec 8

/-- A node address: "0–24 bits of significant value" (R8 ADDR_BITS, D6). -/
abbrev Addr := BitVec 24

/-- One command word of the host port (R52, R57). -/
abbrev CmdWord := BitVec 64

end Sys2Proof
end

