-- ==== Sys2Proof/Syntax.lean ====
section
/-! DEFINITION. The commands of the host command port (R54) and the names of the byte buffers (R34). -/

namespace Sys2Proof

/-- The three byte buffers that commands reach (R34). INIT_ROM is configuration and has no space code. -/
inductive Space where
  /-- PAY_BUF, the payload staging buffer, 64 bytes. -/
  | pay
  /-- TX_BUF, the transmit frame buffer, 73 bytes. -/
  | tx
  /-- RX_BUF, the receive buffer, RX_BUF_SIZE bytes. -/
  | rx
deriving DecidableEq, Repr

/-- The space code SP = A[1:0] of BUFWR and BUFRD (R53, R99). -/
inductive SpaceCode where
  | pay
  | tx
  | rx
  /-- Code 3, reserved: OperandError (R99, U13). -/
  | reserved
deriving DecidableEq, Repr

/-- One command of the host command port: one constructor per row of spec/opcode_table.json (R54), its
operands the fields of the command word that its format uses (R53). -/
inductive Instr where
  /-- ENCODE t, s, r (R76). -/
  | encode (target source : Addr) (reqLen : Byte)
  /-- DECODE n (R78). -/
  | decode (n : Byte)
  /-- RESET (R93). -/
  | reset
  /-- SEND n (R94). -/
  | send (n : Byte)
  /-- RECEIVE c (R95). -/
  | receive (capacity : Byte)
  /-- READREG a (R96). -/
  | readreg (addr : Byte)
  /-- BUFWR SP, IDX, D (R100). -/
  | bufwr (sp : SpaceCode) (idx data : Byte)
  /-- BUFRD SP, IDX (R101). -/
  | bufrd (sp : SpaceCode) (idx : Byte)
deriving DecidableEq, Repr

end Sys2Proof
end

