-- ==== Sys2Proof/Config.lean ====
section
/-! DEFINITION. What one implementation fixes (R9), the fixed values of R8, and the free values. -/

namespace Sys2Proof

/-- The parameters of R9 that the source does not fix. Plain data, so that a state that carries it can be
compared and written out (log 5). -/
structure Config where
  /-- MY_ADDR: the configuration input that power-on reset latches (R26, D6). -/
  myAddr : Addr
  /-- INIT_ROM; its length is INIT_ROM_SIZE (R35, D24). -/
  initRom : List Byte
  /-- RX_BUF_SIZE (D10). -/
  rxBufSize : Nat
  /-- S_SIDLE, "force IDLE" (R85, D18). -/
  sSidle : Byte
  /-- S_STX, "enter TX" (R85, D18). -/
  sStx : Byte
  /-- S_SRX, "enter RX" (R85, D18). -/
  sSrx : Byte
  /-- S_SFTX, "flush TX FIFO" (R85, D18). -/
  sSftx : Byte
  /-- S_SFRX, "flush RX FIFO" (R85, D18). -/
  sSfrx : Byte
  /-- TXFIFO_HDR, the first byte of the TX FIFO burst write (D31). -/
  txfifoHdr : Byte
  /-- RXOCC_ADDR, the RX-FIFO-occupancy register (D18). -/
  rxoccAddr : Byte
  /-- RXOCC_MASK (D12). -/
  rxoccMask : Byte
  /-- TXDONE_ADDR, the register the TX-done wait polls (D18). -/
  txdoneAddr : Byte
  /-- TXDONE_MASK: its bits read zero when TX is done (D20). -/
  txdoneMask : Byte
  /-- READY_ADDR, the register the ready wait polls (D19). -/
  readyAddr : Byte
  /-- READY_MASK (D19). -/
  readyMask : Byte
  /-- READY_VALUE (D19). -/
  readyValue : Byte
  /-- TX_POLL_US, the interval of the TX-done poll (D20). -/
  txPollUs : Nat
  /-- READY_POLL_LIMIT, none or at least 1 (D21). -/
  readyPollLimit : Option Nat
  /-- TX_POLL_LIMIT, none or at least 1 (D21). -/
  txPollLimit : Option Nat
deriving DecidableEq, Repr

/-- SYNC (R8, R59). -/
def Config.sync : Byte := 0x54

/-- MAX_PAYLOAD, and the size of PAY_BUF (R8, R34). -/
def Config.maxPayload : Nat := 64

/-- MAX_FRAME, and the size of TX_BUF (R8, R34). -/
def Config.maxFrame : Nat := 73

/-! The free values. None has a body, so nothing proved can rest on what it is. -/

/-- What byte `i` of a buffer holds after power-on, until it is written: a draw (R33, U1; log 4). -/
opaque Config.powerOnByte : Space → Nat → Byte

/-- The transceiver's `n`-th answered byte since power-on: a draw (R44, U3; log 3). -/
opaque Config.transceiverByte : Nat → Byte

/-! The OPEN parameters of the machine that `State.reset` is the reset of (R9, U19; log 6). -/

opaque Config.openMyAddr : Addr
opaque Config.openSidle : Byte
opaque Config.openStx : Byte
opaque Config.openSrx : Byte
opaque Config.openSftx : Byte
opaque Config.openSfrx : Byte
opaque Config.openTxfifoHdr : Byte
opaque Config.openRxoccAddr : Byte
opaque Config.openTxdoneAddr : Byte
opaque Config.openTxdoneMask : Byte
opaque Config.openReadyAddr : Byte
opaque Config.openReadyMask : Byte
opaque Config.openReadyValue : Byte
opaque Config.openTxPollUs : Nat

/-- The configuration of the machine that `State.reset` is the reset of. DESIGN CHOICE (log 5):
RX_BUF_SIZE = 128, the value 95_test_vectors.md assumes, and INIT_ROM = 01 [S_SRX] 00, the table of its
program P3. RXOCC_MASK and the two poll limits have the defaults R9 states. Every other parameter is open
(log 6). Statements about power-on are made for every configuration, through `State.powerOn`. -/
def Config.atReset : Config where
  myAddr := Config.openMyAddr
  initRom := [0x01, Config.openSrx, 0x00]
  rxBufSize := 128
  sSidle := Config.openSidle
  sStx := Config.openStx
  sSrx := Config.openSrx
  sSftx := Config.openSftx
  sSfrx := Config.openSfrx
  txfifoHdr := Config.openTxfifoHdr
  rxoccAddr := Config.openRxoccAddr
  rxoccMask := 0xFF
  txdoneAddr := Config.openTxdoneAddr
  txdoneMask := Config.openTxdoneMask
  readyAddr := Config.openReadyAddr
  readyMask := Config.openReadyMask
  readyValue := Config.openReadyValue
  txPollUs := Config.openTxPollUs
  readyPollLimit := none
  txPollLimit := none

end Sys2Proof
end

