-- ==== Sys2Proof/Machine/InitTable.lean ====
section
/-! DEFINITION. The unit init_table_parser: the walk of INIT_ROM (R67, R92). -/

namespace Sys2Proof.Machine

/-- The walk of R92 from index `itp` (the pointer ITP of R17): the records up to the terminator, each of
them the bytes of one transaction. `none` when the walk runs off the end of INIT_ROM or a record crosses
it (R67). Every turn moves `itp` on, so as many turns as INIT_ROM has bytes are enough. -/
def initWalk (rom : List Byte) : Nat → Nat → Option (List (List Byte))
  | 0, _ => none
  | turns + 1, itp =>
    match rom[itp]? with
    | none => none
    | some n =>
      if n = 0 then some []
      else if itp + 1 + n.toNat ≤ rom.length then
        (initWalk rom turns (itp + 1 + n.toNat)).map ((rom.drop (itp + 1)).take n.toNat :: ·)
      else none

/-- The records of INIT_ROM in table order, or `none` when INIT_ROM is ill formed (R67). -/
def initRecords (rom : List Byte) : Option (List (List Byte)) :=
  initWalk rom rom.length 0

end Sys2Proof.Machine
end

