-- ==== Sys2Proof/WellFormed.lean ====
section
/-! DEFINITION. Well-formed configurations (R10) and well-formed commands (R52, R56). -/

namespace Sys2Proof

/-- 73 ≤ RX_BUF_SIZE ≤ 256 (R10, D10). -/
def Config.rxBufSizeOk (c : Config) : Bool :=
  Config.maxFrame ≤ c.rxBufSize && c.rxBufSize ≤ 256

/-- INIT_ROM holds a terminated record sequence (R10, R67), and INIT_ROM_SIZE is in the range 1..65536 of
R9 (log 7). -/
def Config.initRomOk (c : Config) : Bool :=
  1 ≤ c.initRom.length && c.initRom.length ≤ 65536 && (Machine.initRecords c.initRom).isSome

/-- A poll limit that is not none is at least 1 (R10, D21). -/
def Config.limitOk : Option Nat → Bool
  | none => true
  | some l => 1 ≤ l

/-- The configuration is well formed (R10). One that is not is refused as a whole. -/
def Config.wf (c : Config) : Bool :=
  c.rxBufSizeOk && c.initRomOk && Config.limitOk c.readyPollLimit && Config.limitOk c.txPollLimit

/-- Every term of `Instr` is a well-formed command: its operands have the widths of their fields (R52), and
an operand value out of range is no illegal word (R56). The operands that can be ill formed are those of
the assembler (R69), checked in Machine/Assembler.lean. -/
def Instr.wf : Instr → Bool
  | .encode _ _ _ => true
  | .decode _ => true
  | .reset => true
  | .send _ => true
  | .receive _ => true
  | .readreg _ => true
  | .bufwr _ _ _ => true
  | .bufrd _ _ => true

end Sys2Proof
end

