-- ==== Sys2Proof/Decode.lean ====
section
/-! DEFINITION. The command-word decoder (R52 to R57) and, after it, the encoder. -/

namespace Sys2Proof

/-! ### The fields of a command word (R52) -/

/-- OP, bits [63:60]. -/
def fieldOp (w : CmdWord) : BitVec 4 := w.extractLsb' 60 4

/-- RSV, bits [59:56]. -/
def fieldRsv (w : CmdWord) : BitVec 4 := w.extractLsb' 56 4

/-- A, bits [55:32]. -/
def fieldA (w : CmdWord) : BitVec 24 := w.extractLsb' 32 24

/-- B, bits [31:8]. -/
def fieldB (w : CmdWord) : BitVec 24 := w.extractLsb' 8 24

/-- N, bits [7:0]. -/
def fieldN (w : CmdWord) : BitVec 8 := w.extractLsb' 0 8

/-! ### Decoding -/

/-- Why a word is illegal (R56). The block gives the same status for all three (R102). -/
inductive DecodeError where
  /-- RSV is not 0. -/
  | reservedNotZero
  /-- OP is 0x0 or 0x9..0xF. -/
  | illegalOpcode
  /-- A field that the format marks 0 is not 0. -/
  | mustBeZero
deriving DecidableEq, Repr

/-- The space code in two bits: 0 PAY_BUF, 1 TX_BUF, 2 RX_BUF, 3 reserved (R34). -/
def spaceCodeOf (b : BitVec 2) : SpaceCode :=
  match b.toNat with
  | 0 => .pay
  | 1 => .tx
  | 2 => .rx
  | _ => .reserved

/-- SP = A[1:0] (R53, format F_BUF). -/
def fieldSp (w : CmdWord) : SpaceCode := spaceCodeOf ((fieldA w).extractLsb' 0 2)

/-- IDX = B[7:0] (R53, format F_BUF). -/
def fieldIdx (w : CmdWord) : Byte := (fieldB w).extractLsb' 0 8

/-- The fields that format F_BUF marks 0: A[23:2] and B[23:8] (R53). -/
def bufZeroFields (w : CmdWord) : Bool :=
  (fieldA w).extractLsb' 2 22 = 0 && (fieldB w).extractLsb' 8 16 = 0

/-- The fields that formats F_N and F_0 mark 0: A and B (R53). -/
def abZero (w : CmdWord) : Bool := fieldA w = 0 && fieldB w = 0

/-- `i` when the fields its format marks 0 are 0, otherwise the rejection (R56). -/
def requireZero (zero : Bool) (i : Instr) : Except DecodeError Instr :=
  if zero then .ok i else .error .mustBeZero

/-- The decoder: total on 64-bit words (R55), rejecting by name what R56 calls illegal. -/
def decode (w : CmdWord) : Except DecodeError Instr :=
  if fieldRsv w ≠ 0 then .error .reservedNotZero
  else match (fieldOp w).toNat with
    | 1 => .ok (.encode (fieldA w) (fieldB w) (fieldN w))
    | 2 => requireZero (abZero w) (.decode (fieldN w))
    | 3 => requireZero (abZero w && fieldN w = 0) .reset
    | 4 => requireZero (abZero w) (.send (fieldN w))
    | 5 => requireZero (abZero w) (.receive (fieldN w))
    | 6 => requireZero (abZero w) (.readreg (fieldN w))
    | 7 => requireZero (bufZeroFields w) (.bufwr (fieldSp w) (fieldIdx w) (fieldN w))
    | 8 => requireZero (bufZeroFields w && fieldN w = 0) (.bufrd (fieldSp w) (fieldIdx w))
    | _ => .error .illegalOpcode

/-- What the decoder reads from a word given as a number, numbered as spec/opcode_table.json numbers it.
A command word is one 64-bit unit, so bit `k` of the number is bit `k` of the word, and bits from `nbits`
up are 0. -/
def decodeTableWord (nbits w : Nat) : Option Instr :=
  (decode (BitVec.ofNat 64 (w % 2 ^ nbits))).toOption

/-! ### Encoding -/

/-- The command word with these fields, RSV = 0 (R52). -/
def commandWord (op : BitVec 4) (a b : BitVec 24) (n : BitVec 8) : CmdWord :=
  (op.setWidth 64 <<< 60) ||| (a.setWidth 64 <<< 32) ||| (b.setWidth 64 <<< 8) ||| n.setWidth 64

/-- The two bits of a space code (R34). -/
def spaceCodeBits : SpaceCode → BitVec 2
  | .pay => 0
  | .tx => 1
  | .rx => 2
  | .reserved => 3

/-- The command word of a command (R53, R54). -/
def encode : Instr → CmdWord
  | .encode t s r => commandWord 0x1 t s r
  | .decode n => commandWord 0x2 0 0 n
  | .reset => commandWord 0x3 0 0 0
  | .send n => commandWord 0x4 0 0 n
  | .receive c => commandWord 0x5 0 0 c
  | .readreg a => commandWord 0x6 0 0 a
  | .bufwr sp i d => commandWord 0x7 ((spaceCodeBits sp).setWidth 24) (i.setWidth 24) d
  | .bufrd sp i => commandWord 0x8 ((spaceCodeBits sp).setWidth 24) (i.setWidth 24) 0

/-! ### The opcode table (R55) -/

/-- One row of the table of R55: a word belongs to it when its masked bits equal `bits`. -/
structure OpRow where
  /-- The row's mnemonic. -/
  mnemonic : String
  /-- The match value. -/
  bits : CmdWord
  /-- The mask. -/
  mask : CmdWord
deriving DecidableEq, Repr

/-- The table of R55, in its order. -/
def opTable : List OpRow :=
  [⟨"ENCODE", 0x1000000000000000, 0xFF00000000000000⟩,
   ⟨"DECODE", 0x2000000000000000, 0xFFFFFFFFFFFFFF00⟩,
   ⟨"RESET", 0x3000000000000000, 0xFFFFFFFFFFFFFFFF⟩,
   ⟨"SEND", 0x4000000000000000, 0xFFFFFFFFFFFFFF00⟩,
   ⟨"RECEIVE", 0x5000000000000000, 0xFFFFFFFFFFFFFF00⟩,
   ⟨"READREG", 0x6000000000000000, 0xFFFFFFFFFFFFFF00⟩,
   ⟨"BUFWR", 0x7000000000000000, 0xFFFFFFFCFFFF0000⟩,
   ⟨"BUFRD", 0x8000000000000000, 0xFFFFFFFCFFFF00FF⟩]

/-- The word belongs to the row (R55). -/
def OpRow.covers (r : OpRow) (w : CmdWord) : Bool := w &&& r.mask = r.bits

/-- The first row of the table that the word belongs to (R55, "first match wins"). -/
def opRowOf (w : CmdWord) : Option OpRow := opTable.find? (·.covers w)

/-- The mnemonic of a command, as the table spells it. -/
def Instr.mnemonic : Instr → String
  | .encode _ _ _ => "ENCODE"
  | .decode _ => "DECODE"
  | .reset => "RESET"
  | .send _ => "SEND"
  | .receive _ => "RECEIVE"
  | .readreg _ => "READREG"
  | .bufwr _ _ _ => "BUFWR"
  | .bufrd _ _ => "BUFRD"

end Sys2Proof
end

