-- ==== Sys2Proof/Machine/State.lean ====
section
/-! DEFINITION. The state of the block (R15), the reasons a step can stop, and power-on reset (R33). -/

namespace Sys2Proof.Machine

/-- The status codes of R104. Codes 10 to 15 are never written (U10) and have no name. -/
inductive Status where
  | ok
  | notForUs
  | lengthOverflow
  | invalidSync
  | invalidHeader
  | truncated
  | chipNotReady
  | notInitialised
  | operandError
  | illegalCommand
deriving DecidableEq, Repr

/-- DRV_STATE, the block's belief about the mode it last put the transceiver in (R27). -/
inductive DrvState where
  /-- 0b00: no RESET has completed, or the last transceiver wait failed. -/
  | uninit
  /-- 0b01: the block has strobed IDLE. -/
  | idle
  /-- 0b10: the block has strobed "enter TX" and not yet IDLE. -/
  | tx
  /-- 0b11: the block has strobed "enter RX". -/
  | rx
deriving DecidableEq, Repr

/-- One transport event of HIST (R30). -/
inductive Event where
  /-- W(bs): a write transaction of the bytes `bs`. -/
  | write (bs : List Byte)
  /-- RR(a, v): a read of register `a` that returned `v`. -/
  | readReg (a v : Byte)
  /-- RB(k, bs): a burst read of `k` bytes that returned `bs`. -/
  | readBurst (k : Nat) (bs : List Byte)
  /-- D(us): a delay. -/
  | delay (us : Nat)
deriving DecidableEq, Repr

/-- The step a command has reached (R29): the two polls are the only points at which a command can be
between two steps of the model (log 1). -/
inductive Seq where
  /-- Between commands: the host port is free (R113). -/
  | idle
  /-- RESET is in ReadyWait with PCNT_READY = `pcnt` (R90). -/
  | readyWait (pcnt : Nat)
  /-- SEND is in TxDoneWait with PCNT_TX = `pcnt` (R91). -/
  | txWait (pcnt : Nat)
deriving DecidableEq, Repr

/-- The written bytes of one buffer: index and byte, indices strictly rising (log 14). -/
abbrev Memory := List Host.Cell

/-- Everything the spec gives the block (R15, R29, R30), the configuration (R9), and the model's own inputs
and free-value counter. -/
structure State where
  /-- R_STATUS.CODE (R18). The DRV field of R_STATUS is a view of `drv`, not a copy. -/
  code : BitVec 4
  /-- R_DATA (R19). -/
  rData : BitVec 8
  /-- R_TARGET (R20). -/
  rTarget : BitVec 24
  /-- R_SOURCE (R21). -/
  rSource : BitVec 24
  /-- R_DAB (R22). -/
  rDab : BitVec 2
  /-- R_SAB (R23). -/
  rSab : BitVec 2
  /-- R_WLEN (R24). -/
  rWlen : BitVec 7
  /-- R_OFF (R25). -/
  rOff : BitVec 4
  /-- MY_ADDR (R26). -/
  myAddr : BitVec 24
  /-- DRV_STATE (R27). -/
  drv : DrvState
  /-- SEL_N, active low (R28). -/
  selN : BitVec 1
  /-- PAY_BUF (R34). -/
  payBuf : Memory
  /-- TX_BUF (R34). -/
  txBuf : Memory
  /-- RX_BUF (R34). -/
  rxBuf : Memory
  /-- HIST (R30). -/
  hist : List Event
  /-- The step reached inside a command, with its poll counter (R29). -/
  seq : Seq
  /-- The configuration: INIT_ROM and the parameters of R9. -/
  cfg : Config
  /-- The model's own: the words the host will present, in order (R17, R113; log 2). -/
  hostWords : List CmdWord
  /-- The model's own: the next answers of the transceiver that a claim names (R44; log 3). -/
  answers : List Byte
  /-- The model's own: how many bytes the transceiver has answered (R44; log 3). -/
  draws : Nat
deriving DecidableEq, Repr

/-- A step never faults: "No status is a model fault: every legal and illegal command word has a defined
result" (R120). So there is no fault to raise. This is exact (log 15). -/
inductive Fault where
deriving DecidableEq, Repr

/-- Why a step can be refused. -/
inductive Refusal where
  /-- Raised by `step` alone, for a configuration that is not well formed: "A model refuses an ill-formed
  configuration as a whole: it has no runs at all" (R10, R120). Safe: the spec gives such a machine no
  behaviour. -/
  | illFormedConfiguration
  /-- Raised by an arm of `exec` for a command with no meaning yet. No arm does. Safe. -/
  | notModelled (mnemonic : String)
deriving DecidableEq, Repr

/-- Power-on reset of a machine with configuration `c` (R33, R121). No buffer byte is written, so each
reads as its power-on draw. -/
def State.powerOn (c : Config) : State where
  code := 0
  rData := 0
  rTarget := 0
  rSource := 0
  rDab := 0
  rSab := 0
  rWlen := 0
  rOff := 0
  myAddr := c.myAddr
  drv := .uninit
  selN := 1
  payBuf := []
  txBuf := []
  rxBuf := []
  hist := []
  seq := .idle
  cfg := c
  hostWords := []
  answers := []
  draws := 0

/-- The machine right after power-on reset (R33), for the configuration of log 5. -/
def State.reset : State := State.powerOn Config.atReset

end Sys2Proof.Machine
end

