-- ==== Sys2Proof/Machine/Flags.lean ====
section
/-! DEFINITION. The block's one status register (R18) and the codes it holds (R104). There are no other
flags (R13). -/

namespace Sys2Proof.Machine

/-- The status code of a status (R104). -/
def Status.code : Status → BitVec 4
  | .ok => 0
  | .notForUs => 1
  | .lengthOverflow => 2
  | .invalidSync => 3
  | .invalidHeader => 4
  | .truncated => 5
  | .chipNotReady => 6
  | .notInitialised => 7
  | .operandError => 8
  | .illegalCommand => 9

/-- DRV_STATE as two bits (R27). -/
def DrvState.bits : DrvState → BitVec 2
  | .uninit => 0b00
  | .idle => 0b01
  | .tx => 0b10
  | .rx => 0b11

/-- R_STATUS as the host reads it: [3:0] CODE, [5:4] DRV_STATE at the moment of the read, [7:6] zero
(R18). -/
def State.rStatus (s : State) : BitVec 8 :=
  (s.drv.bits.setWidth 8 <<< 4) ||| s.code.setWidth 8

end Sys2Proof.Machine
end

