-- ==== Sys2Proof/Machine/Operands.lean ====
section
/-! DEFINITION. The unit address_byte_packer (R71 to R73), the length buckets (R62, R63, R74), the header
bytes (R60, R61) and the buffer operand of BUFWR and BUFRD (R99). -/

namespace Sys2Proof.Machine

/-! ### Addresses -/

/-- The address byte count of R71. -/
def abc (v : Addr) : Nat :=
  if v.toNat = 0 then 0
  else if v.toNat ≤ 0xFF then 1
  else if v.toNat ≤ 0xFFFF then 2
  else 3

/-- A target field has 0..3 bytes (R71). -/
def abcTarget (v : Addr) : Nat := abc v

/-- A source field has 1..3 bytes: "Source may never encode as 0 bytes on wire" (R71). -/
def abcSource (v : Addr) : Nat := max 1 (abc v)

/-- The `k`-byte field of `v`, most significant byte first (R72). -/
def pack (v : Addr) (k : Nat) : List Byte :=
  (List.range k).map fun i => BitVec.ofNat 8 (v.toNat >>> (8 * (k - 1 - i)))

/-- The big-endian number that a byte sequence spells (R73). -/
def bigEndian : List Byte → Nat
  | [] => 0
  | b :: bs => b.toNat * 2 ^ (8 * bs.length) + bigEndian bs

/-- The address that a field of at most 3 bytes holds (R73). -/
def unpack (bs : List Byte) : Addr := BitVec.ofNat 24 (bigEndian bs)

/-! ### Length buckets -/

/-- lengthCode and wireLength of a requested length; `none` is overflow (R62, R74). -/
def lenCode (r : Nat) : Option (Nat × Nat) :=
  if r ≤ 8 then some (r, r)
  else if r ≤ 16 then some (9, 16)
  else if r ≤ 32 then some (10, 32)
  else if r ≤ 64 then some (11, 64)
  else none

/-- wireLength of a length code; `none` is invalid (R63, R74). -/
def wireLen (c : Nat) : Option Nat :=
  if c ≤ 8 then some c
  else if c = 9 then some 16
  else if c = 10 then some 32
  else if c = 11 then some 64
  else none

/-! ### Header bytes -/

/-- HDB2 as the encoder builds it (R60). -/
def hdb2Of (dab sab : Nat) : Byte :=
  (BitVec.ofNat 8 dab <<< 6) ||| (BitVec.ofNat 8 sab <<< 4)

/-- HDB2[7:6], the target byte count (R60). -/
def hdb2Dab (h : Byte) : BitVec 2 := h.extractLsb' 6 2

/-- HDB2[5:4], the source byte count (R60). -/
def hdb2Sab (h : Byte) : BitVec 2 := h.extractLsb' 4 2

/-- HDB2[3:2], the reserved flags (R60). -/
def hdb2Flags (h : Byte) : BitVec 2 := h.extractLsb' 2 2

/-- HDB2[1:0], ack (R60). -/
def hdb2Ack (h : Byte) : BitVec 2 := h.extractLsb' 0 2

/-- HDB1[7], cmd (R61). -/
def hdb1Cmd (h : Byte) : BitVec 1 := h.extractLsb' 7 1

/-- HDB1[6:4], errmode (R61). -/
def hdb1Errmode (h : Byte) : BitVec 3 := h.extractLsb' 4 3

/-- HDB1[3:0], the length code (R61). -/
def hdb1Code (h : Byte) : BitVec 4 := h.extractLsb' 0 4

/-- The length of a frame from its header bytes alone; `none` for an invalid length code (R65). -/
def frameLength (hdb2 hdb1 : Byte) : Option Nat :=
  (wireLen (hdb1Code hdb1).toNat).map fun wl =>
    3 + (hdb2Dab hdb2).toNat + (hdb2Sab hdb2).toNat + wl

/-! ### Buffer operands -/

/-- The size of a buffer (R34). -/
def State.sizeOf (s : State) : Space → Nat
  | .pay => Config.maxPayload
  | .tx => Config.maxFrame
  | .rx => s.cfg.rxBufSize

/-- The buffer a space code selects; code 3 is reserved (R99). -/
def spaceOf : SpaceCode → Option Space
  | .pay => some .pay
  | .tx => some .tx
  | .rx => some .rx
  | .reserved => none

/-- The operand check shared by BUFWR and BUFRD: the buffer byte they name, or `none` for OperandError
(R99). -/
def State.bufOperand (s : State) (sp : SpaceCode) (idx : Byte) : Option (Space × Nat) :=
  match spaceOf sp with
  | none => none
  | some space => if idx.toNat < s.sizeOf space then some (space, idx.toNat) else none

end Sys2Proof.Machine
end

