-- ==== Sys2Proof/Machine/Ops.lean ====
section
/-! DEFINITION. The shared operations: buffers, the transport, the end of a command, the host read port. -/

namespace Sys2Proof.Machine

/-! ### One buffer as a list of cells (log 14) -/

/-- The byte written at index `a`, or `none` when nothing has been written there. -/
def Memory.byteAt : Memory → Nat → Option Byte
  | [], _ => none
  | (k, b) :: m, a => if k = a then some b else Memory.byteAt m a

/-- The buffer with byte `b` at index `a`. -/
def Memory.write : Memory → Nat → Byte → Memory
  | [], a, b => [(a, b)]
  | (k, c) :: m, a, b =>
    if a < k then (a, b) :: (k, c) :: m
    else if a = k then (a, b) :: m
    else (k, c) :: Memory.write m a b

/-- The buffer with the bytes `bs` from index `i` on. -/
def Memory.writeBytes : Memory → Nat → List Byte → Memory
  | m, _, [] => m
  | m, i, b :: bs => Memory.writeBytes (Memory.write m i b) (i + 1) bs

/-- The canonical form of a buffer of `size` bytes: indices strictly rising, all inside the buffer
(log 14). -/
abbrev Memory.wf (size : Nat) (m : Memory) : Prop :=
  m.Pairwise (fun c d => c.1 < d.1) ∧ ∀ c ∈ m, c.1 < size

/-! ### The three buffers (R34) -/

/-- The cells of a buffer. -/
def State.cells (s : State) : Space → Memory
  | .pay => s.payBuf
  | .tx => s.txBuf
  | .rx => s.rxBuf

/-- The state with other cells in one buffer. -/
def State.setCells (s : State) (sp : Space) (m : Memory) : State :=
  match sp with
  | .pay => { s with payBuf := m }
  | .tx => { s with txBuf := m }
  | .rx => { s with rxBuf := m }

/-- One byte of a buffer: what was last written there, or the power-on draw (R33, R43, U1; log 4). -/
def State.readByte (s : State) (sp : Space) (i : Nat) : Byte :=
  ((s.cells sp).byteAt i).getD (Config.powerOnByte sp i)

/-- MemRead(SPACE, i, n) (R12). -/
def State.memRead (s : State) (sp : Space) (i n : Nat) : List Byte :=
  (List.range n).map fun j => s.readByte sp (i + j)

/-- MemWrite(SPACE, i, bs) (R12). -/
def State.memWrite (s : State) (sp : Space) (i : Nat) (bs : List Byte) : State :=
  s.setCells sp ((s.cells sp).writeBytes i bs)

/-! ### The transport (R82 to R86) -/

/-- Asserts the select line: SEL_N <- 0 (R28). -/
def State.selectOn (s : State) : State := { s with selN := 0 }

/-- Deasserts the select line: SEL_N <- 1 (R28). -/
def State.selectOff (s : State) : State := { s with selN := 1 }

/-- HIST <- HIST ++ [e] (R30). -/
def State.record (s : State) (e : Event) : State := { s with hist := s.hist ++ [e] }

/-- The `j`-th byte the transceiver will answer from here on: one a claim has named, else a draw (R44;
log 3). -/
def State.answerAt (s : State) (j : Nat) : Byte :=
  (s.answers[j]?).getD (Config.transceiverByte (s.draws + j))

/-- The next byte the transceiver will answer. -/
def State.answer (s : State) : Byte := s.answerAt 0

/-- The next `k` bytes the transceiver will answer. -/
def State.answerBytes (s : State) (k : Nat) : List Byte := (List.range k).map s.answerAt

/-- The transceiver has answered `k` more bytes (R44). -/
def State.tookAnswers (s : State) (k : Nat) : State :=
  { s with answers := s.answers.drop k, draws := s.draws + k }

/-- XWrite(bs) (R82). -/
def State.xWrite (s : State) (bs : List Byte) : State :=
  s.selectOn.selectOff.record (.write bs)

/-- Strobe(b) (R85). -/
def State.strobe (s : State) (b : Byte) : State := s.xWrite [b]

/-- XReadReg(a); the byte it returns is `s.answer` (R83). -/
def State.xReadReg (s : State) (a : Byte) : State :=
  ((s.selectOn.tookAnswers 1).selectOff).record (.readReg a s.answer)

/-- XReadBurst(k); the bytes it returns are `s.answerBytes k` (R84). -/
def State.xReadBurst (s : State) (k : Nat) : State :=
  ((s.selectOn.tookAnswers k).selectOff).record (.readBurst k (s.answerBytes k))

/-- Delay(us) (R86; log 10). -/
def State.delay (s : State) (us : Nat) : State := s.record (.delay us)

/-! ### The end of a command (R103, R110) -/

/-- The command ends with status `e`: R_STATUS.CODE is written and the host port is free (R103, R113). This
is the one place where a status is written. -/
def State.endWith (s : State) (e : Status) : State := { s with code := e.code, seq := .idle }

/-- `finish()`: the command ends with OK (R12). -/
def State.finish (s : State) : State := s.endWith .ok

/-- `raise E()`: the command ends with status E and no write after it happens (R12, R110). There is no
vector, saved state or return (R110, R111): the next command word follows. -/
def State.raise (s : State) (e : Status) : State := s.endWith e

/-- A poll limit is reached (R90, R91, R107): DRV_STATE <- UNINIT, then `raise ChipNotReady()`. -/
def State.raiseChipNotReady (s : State) : State :=
  ({ s with drv := .uninit } : State).raise .chipNotReady

/-- `LIMIT != none and c >= LIMIT` (R90, R91). -/
def limitReached (limit : Option Nat) (c : Nat) : Bool :=
  match limit with
  | none => false
  | some l => l ≤ c

/-! ### The host read port (R32) -/

/-- The value of the register with a host number, zero-extended to 32 bits; numbers 9 to 15 read as 0
(R32). -/
def State.hostReg (s : State) (num : BitVec 4) : BitVec 32 :=
  match num.toNat with
  | 0 => s.rStatus.setWidth 32
  | 1 => s.rData.setWidth 32
  | 2 => s.rTarget.setWidth 32
  | 3 => s.rSource.setWidth 32
  | 4 => s.rDab.setWidth 32
  | 5 => s.rSab.setWidth 32
  | 6 => s.rWlen.setWidth 32
  | 7 => s.rOff.setWidth 32
  | 8 => s.myAddr.setWidth 32
  | _ => 0

/-- The host read port: it answers between commands only (R32, R113; log 11). A read changes nothing. -/
def State.hostRead (s : State) (num : BitVec 4) : Option (BitVec 32) :=
  if s.seq = .idle then some (s.hostReg num) else none

end Sys2Proof.Machine
end

