-- ==== Sys2Proof/Machine/Buffer.lean ====
section
/-! DEFINITION. Buffer access: BUFWR (R100) and BUFRD (R101), and illegal command words (R102). None touches
the transport or DRV_STATE (D30). -/

namespace Sys2Proof.Machine

/-- BUFWR SP, IDX, D (R100). -/
def execBufwr (sp : SpaceCode) (idx data : Byte) (s : State) : Host.Outcome State Fault Refusal :=
  .next <| match s.bufOperand sp idx with
    | none => s.raise .operandError
    | some (space, i) => (s.memWrite space i [data]).finish

/-- BUFRD SP, IDX (R101). -/
def execBufrd (sp : SpaceCode) (idx : Byte) (s : State) : Host.Outcome State Fault Refusal :=
  .next <| match s.bufOperand sp idx with
    | none => s.raise .operandError
    | some (space, i) => ({ s with rData := s.readByte space i } : State).finish

/-- ILLEGAL(w): what any word that decodes to no command does (R102, D28). -/
def execIllegal (s : State) : Host.Outcome State Fault Refusal :=
  .next (s.raise .illegalCommand)

end Sys2Proof.Machine
end

