-- ==== Sys2Proof/Machine/Codec.lean ====
section
/-! DEFINITION. The units packet_codec_encoder and packet_codec_decoder: ENCODE (R76) and DECODE (R78).
Neither touches the transport or DRV_STATE (D30). -/

namespace Sys2Proof.Machine

/-! ### ENCODE -/

/-- The frame of R58 as the encoder builds it (R76): sync, HDB2, HDB1, target, source, payload. -/
def buildFrame (t src : Addr) (code : Nat) (payload : List Byte) : List Byte :=
  [Config.sync, hdb2Of (abcTarget t) (abcSource src), BitVec.ofNat 8 code]
    ++ pack t (abcTarget t) ++ pack src (abcSource src) ++ payload

/-- ENCODE t, s, r (R76). -/
def execEncode (t src : Addr) (r : Byte) (s : State) : Host.Outcome State Fault Refusal :=
  .next <| match lenCode r.toNat with
    | none => s.raise .lengthOverflow
    | some (code, wl) =>
      let s := s.memWrite .tx 0 (buildFrame t src code (s.memRead .pay 0 wl))
      ({ s with rData := BitVec.ofNat 8 (3 + abcTarget t + abcSource src + wl) } : State).finish

/-! ### DECODE -/

/-- What DECODE recovers from a frame (R78 step 9). -/
structure Parsed where
  target : Addr
  source : Addr
  dab : BitVec 2
  sab : BitVec 2
  wlen : Nat
deriving DecidableEq, Repr

/-- R_OFF = 3 + dab + sab (R25, D40). -/
def Parsed.offset (p : Parsed) : Nat := 3 + p.dab.toNat + p.sab.toNat

/-- Some check of HDB2 fails (R78 step 3; D14, D15). -/
def hdb2Invalid (h : Byte) : Bool := hdb2Flags h ≠ 0 || hdb2Ack h ≠ 0 || hdb2Sab h = 0

/-- Some check of HDB1 before the length code's inverse fails (R78 step 4). -/
def hdb1Invalid (h : Byte) : Bool := hdb1Cmd h ≠ 0 || hdb1Errmode h ≠ 0 || hdb1Code h = 15

/-- The frame is for this node: `targetAddress == 0 || targetAddress == myAddress` (R80, D16). -/
def forUs (myAddr t : Addr) : Bool := t = 0 || t = myAddr

/-- R78 from step 6 on: `rest` is the buffer after the three header bytes. -/
def parseBody (myAddr : Addr) (dab sab : BitVec 2) (wl : Nat) (rest : List Byte) : Except Status Parsed :=
  let t := unpack (rest.take dab.toNat)
  if rest.length < dab.toNat then .error .truncated
  else if !forUs myAddr t then .error .notForUs
  else if rest.length < dab.toNat + sab.toNat + wl then .error .truncated
  else .ok ⟨t, unpack ((rest.drop dab.toNat).take sab.toNat), dab, sab, wl⟩

/-- R78 from step 1 on, for the `n` valid bytes of RX_BUF; the checks stand in the order of R109. -/
def parseFrame (myAddr : Addr) : List Byte → Except Status Parsed
  | sync :: h2 :: h1 :: rest =>
    if sync ≠ Config.sync then .error .invalidSync
    else if hdb2Invalid h2 then .error .invalidHeader
    else if hdb1Invalid h1 then .error .invalidHeader
    else match wireLen (hdb1Code h1).toNat with
      | none => .error .invalidHeader
      | some wl => parseBody myAddr (hdb2Dab h2) (hdb2Sab h2) wl rest
  | _ => .error .truncated

/-- The decode results of R78 step 9. -/
def State.setParsed (s : State) (p : Parsed) : State :=
  { s with
    rTarget := p.target
    rSource := p.source
    rDab := p.dab
    rSab := p.sab
    rWlen := BitVec.ofNat 7 p.wlen
    rOff := BitVec.ofNat 4 p.offset }

/-- DECODE n (R78). -/
def execDecode (n : Byte) (s : State) : Host.Outcome State Fault Refusal :=
  .next <|
    if n.toNat > s.sizeOf .rx then s.raise .operandError
    else match parseFrame s.myAddr (s.memRead .rx 0 n.toNat) with
      | .error e => s.raise e
      | .ok p => (s.setParsed p).finish

end Sys2Proof.Machine
end

