-- ==== Sys2Proof/Machine/Driver.lean ====
section
/-! DEFINITION. The units register_fifo_sequencer, transceiver_state_machine and init_table_parser: RESET
(R93), SEND (R94), RECEIVE (R95) and READREG (R96). DRV_STATE changes only where R87 says. -/

namespace Sys2Proof.Machine

/-! ### Polls (R90, R91; log 1) -/

/-- InitReplay(): each record of INIT_ROM as one write transaction, in table order (R92). A step on an
ill-formed INIT_ROM is refused before it comes here (log 7). -/
def State.initReplay (s : State) : State :=
  match initRecords s.cfg.initRom with
  | some records => records.foldl State.xWrite s
  | none => s

/-- The rest of RESET after ReadyWait (R93). -/
def State.resetReady (s : State) : State :=
  ({ s.initReplay with drv := .rx } : State).finish

/-- One turn of the loop of ReadyWait with PCNT_READY = `pcnt` (R90), and on ready the rest of RESET. -/
def State.readyPoll (s : State) (pcnt : Nat) : State :=
  let v := s.answer
  let s := s.xReadReg s.cfg.readyAddr
  if v &&& s.cfg.readyMask = s.cfg.readyValue then s.resetReady
  else if limitReached s.cfg.readyPollLimit (pcnt + 1) then s.raiseChipNotReady
  else { s with seq := .readyWait (pcnt + 1) }

/-- Strobe(S_SIDLE); DRV_STATE <- IDLE (R87). -/
def State.forceIdle (s : State) : State := { s.strobe s.cfg.sSidle with drv := .idle }

/-- Strobe(S_STX); DRV_STATE <- TX (R87). -/
def State.enterTx (s : State) : State := { s.strobe s.cfg.sStx with drv := .tx }

/-- Strobe(S_SRX); DRV_STATE <- RX (R87). -/
def State.enterRx (s : State) : State := { s.strobe s.cfg.sSrx with drv := .rx }

/-- One turn of the loop of TxDoneWait with PCNT_TX = `pcnt` (R91), and on done the rest of SEND (R94). -/
def State.txPoll (s : State) (pcnt : Nat) : State :=
  let s := s.delay s.cfg.txPollUs
  let v := s.answer
  let s := s.xReadReg s.cfg.txdoneAddr
  if v &&& s.cfg.txdoneMask = 0 then s.forceIdle.enterRx.finish
  else if limitReached s.cfg.txPollLimit (pcnt + 1) then s.raiseChipNotReady
  else { s with seq := .txWait (pcnt + 1) }

/-! ### Commands -/

/-- RESET (R93): its first ready poll, and on ready all of it. -/
def execReset (s : State) : Host.Outcome State Fault Refusal :=
  .next (({ s with drv := .uninit } : State).readyPoll 0)

/-- SEND before its wait: flush, IDLE, FIFO write, TX (R94). -/
def State.sendStart (s : State) (n : Nat) : State :=
  let s := (s.strobe s.cfg.sSftx).forceIdle
  (s.xWrite (s.cfg.txfifoHdr :: s.memRead .tx 0 n)).enterTx

/-- SEND n (R94): up to its first TX-done poll, and on done all of it. -/
def execSend (n : Byte) (s : State) : Host.Outcome State Fault Refusal :=
  .next <|
    if n = 0 ∨ n.toNat > Config.maxFrame then s.raise .operandError
    else if s.drv ≠ .rx then s.raise .notInitialised
    else (s.sendStart n.toNat).txPoll 0

/-- The occupancy that RECEIVE reads: `XReadReg(RXOCC_ADDR) & RXOCC_MASK` (R95, D12). -/
def State.occupancy (s : State) : Byte := s.answer &&& s.cfg.rxoccMask

/-- "reset RX framing (IDLE, flush RX FIFO, flush TX FIFO, re-arm RX)" (R95). -/
def State.resetRxFraming (s : State) : State :=
  let s := s.forceIdle
  let s := s.strobe s.cfg.sSfrx
  (s.strobe s.cfg.sSftx).enterRx

/-- RECEIVE with occupancy: the burst of `k` bytes and what follows it (R95). -/
def State.receiveBurst (s : State) (k : Nat) : State :=
  let bs := s.answerBytes k
  let s := ((s.xReadBurst k).memWrite .rx 0 bs).resetRxFraming
  ({ s with rData := BitVec.ofNat 8 k } : State).finish

/-- RECEIVE c (R95). -/
def execReceive (c : Byte) (s : State) : Host.Outcome State Fault Refusal :=
  .next <|
    if c = 0 ∨ c.toNat > s.sizeOf .rx then s.raise .operandError
    else if s.drv ≠ .rx then s.raise .notInitialised
    else
      let occ := s.occupancy
      let s := s.xReadReg s.cfg.rxoccAddr
      if occ = 0 then ({ s with rData := 0 } : State).finish
      else s.receiveBurst (min occ.toNat c.toNat)

/-- READREG a (R96). -/
def execReadreg (a : Byte) (s : State) : Host.Outcome State Fault Refusal :=
  let v := s.answer
  .next ({ s.xReadReg a with rData := v } : State).finish

end Sys2Proof.Machine
end

