-- ==== Sys2Proof/Machine/Dispatch.lean ====
section
/-! DEFINITION. One arm per command (R54). -/

namespace Sys2Proof.Machine

-- The meaning of a command, the host port free and its word taken.
def exec (i : Instr) (s : State) : Host.Outcome State Fault Refusal :=
  match i with
  | .encode target source reqLen => Sys2Proof.Machine.execEncode target source reqLen s
  | .decode n => Sys2Proof.Machine.execDecode n s
  | .reset => Sys2Proof.Machine.execReset s
  | .send n => Sys2Proof.Machine.execSend n s
  | .receive capacity => Sys2Proof.Machine.execReceive capacity s
  | .readreg addr => Sys2Proof.Machine.execReadreg addr s
  | .bufwr sp idx data => Sys2Proof.Machine.execBufwr sp idx data s
  | .bufrd sp idx => Sys2Proof.Machine.execBufrd sp idx s

end Sys2Proof.Machine
end

