-- ==== Sys2Proof/Machine/Port.lean ====
section
/-! DEFINITION. The host command port (R113) and the command in progress (R29). -/

namespace Sys2Proof.Machine

/-- The word the host presents next, and the state once it is taken; `none` when the host presents no word
(R113, R122; log 2). -/
def State.takeWord (s : State) : Option (CmdWord × State) :=
  match s.hostWords with
  | [] => none
  | w :: ws => some (w, { s with hostWords := ws })

/-- The next turn of a command in progress; `none` between commands (R29, R113). -/
def State.continueCommand (s : State) : Option State :=
  match s.seq with
  | .idle => none
  | .readyWait pcnt => some (s.readyPoll pcnt)
  | .txWait pcnt => some (s.txPoll pcnt)

/-- The host presents `w` before every word that still waits, the port being free. -/
def State.present (s : State) (w : CmdWord) : State :=
  { s with seq := .idle, hostWords := w :: s.hostWords }

end Sys2Proof.Machine
end

