-- ==== Sys2Proof/Machine/Step.lean ====
section
/-! DEFINITION. One step of the block (R47, R113; log 1). -/

namespace Sys2Proof.Machine

/-- Runs a command word: the command it decodes to, or ILLEGAL (R55, R56, R102). -/
def runWord (w : CmdWord) (s : State) : Host.Outcome State Fault Refusal :=
  match decode w with
  | .ok i => exec i s
  | .error _ => execIllegal s

/-- One step: a command in progress goes on with its poll; otherwise the host's next word runs; with no
word the block waits (R122). An ill-formed configuration has no steps (R10). -/
def step (s : State) : Host.Outcome State Fault Refusal :=
  if s.cfg.wf then
    match s.continueCommand with
    | some t => .next t
    | none =>
      match s.takeWord with
      | none => .next s
      | some (w, t) => runWord w t
  else .refused .illFormedConfiguration

/-- The state in which the very next step takes and runs the table word `w`: it is presented first, and the
port is free (log 2). -/
def State.withFetchWord (s : State) (nbits w : Nat) : State :=
  s.present (BitVec.ofNat 64 (w % 2 ^ nbits))

end Sys2Proof.Machine
end

