-- ==== Sys2Proof/Machine/Assembler.lean ====
section
/-! DEFINITION. The assembly syntax (R69) and the pseudo-commands (R70). Operands are numbers here, so they
can fail to fit their fields: "An operand that does not fit its field is an assembly error, not a word". -/

namespace Sys2Proof.Machine

/-- One line of assembly, operands as written (R69, R70). -/
inductive AsmLine where
  | encode (t s r : Nat)
  | decode (n : Nat)
  | reset
  | send (n : Nat)
  | receive (c : Nat)
  | readreg (a : Nat)
  | bufwr (sp i d : Nat)
  | bufrd (sp i : Nat)
  /-- The pseudo-command SENDPKT t, s, r (R70). -/
  | sendpkt (t s r : Nat)
  /-- The pseudo-command LOAD sp, i, d0, d1, ..., dk (R70). -/
  | load (sp i d0 : Nat) (ds : List Nat)
deriving DecidableEq, Repr

/-- The number fits a field of `width` bits. -/
def fits (width n : Nat) : Bool := n < 2 ^ width

/-- Consecutive BUFWR commands from index `i` on (R70 LOAD). -/
def loadCommands (sp : Nat) : Nat → List Nat → List AsmLine
  | _, [] => []
  | i, d :: ds => .bufwr sp i d :: loadCommands sp (i + 1) ds

/-- The frame length that SENDPKT computes: L = 3 + abc_target(t) + abc_source(s) + wireLength(r); `none`
for r > 64 (R70). -/
def sendpktLength (t s r : Nat) : Option Nat :=
  (lenCode r).map fun cw =>
    3 + abcTarget (BitVec.ofNat 24 t) + abcSource (BitVec.ofNat 24 s) + cw.2

/-- The plain commands that a line stands for; `none` when SENDPKT has r > 64 or an address wider than 24
bits (R70). -/
def AsmLine.expand : AsmLine → Option (List AsmLine)
  | .sendpkt t s r =>
    if fits 24 t && fits 24 s then
      (sendpktLength t s r).map fun l => [.encode t s r, .send l]
    else none
  | .load sp i d0 ds => some (loadCommands sp i (d0 :: ds))
  | l => some [l]

/-- The command of a plain line whose operands fit their fields; `none` is an assembly error (R69). -/
def AsmLine.command : AsmLine → Option Instr
  | .encode t s r =>
    if fits 24 t && fits 24 s && fits 8 r then
      some (.encode (BitVec.ofNat 24 t) (BitVec.ofNat 24 s) (BitVec.ofNat 8 r))
    else none
  | .decode n => if fits 8 n then some (.decode (BitVec.ofNat 8 n)) else none
  | .reset => some .reset
  | .send n => if fits 8 n then some (.send (BitVec.ofNat 8 n)) else none
  | .receive c => if fits 8 c then some (.receive (BitVec.ofNat 8 c)) else none
  | .readreg a => if fits 8 a then some (.readreg (BitVec.ofNat 8 a)) else none
  | .bufwr sp i d =>
    if fits 2 sp && fits 8 i && fits 8 d then
      some (.bufwr (spaceCodeOf (BitVec.ofNat 2 sp)) (BitVec.ofNat 8 i) (BitVec.ofNat 8 d))
    else none
  | .bufrd sp i =>
    if fits 2 sp && fits 8 i then
      some (.bufrd (spaceCodeOf (BitVec.ofNat 2 sp)) (BitVec.ofNat 8 i))
    else none
  | .sendpkt _ _ _ => none
  | .load _ _ _ _ => none

/-- The command words of a line; `none` is an assembly error (R69, R70). -/
def AsmLine.assemble (l : AsmLine) : Option (List CmdWord) :=
  l.expand.bind fun ls => ls.mapM fun p => p.command.map Sys2Proof.encode

/-! ### Text (R69; log 12) -/

/-- The text before the first `;`: a comment runs to the end of the line (R69). -/
def stripComment (cs : List Char) : List Char := cs.takeWhile (· ≠ ';')

/-- Splits at blanks and commas, which separate the mnemonic and the operands (log 12). -/
def asmTokens (cs : List Char) : List (List Char) :=
  (cs.splitOnP fun c => c = ' ' || c = '\t' || c = ',').filter (· ≠ [])

/-- The digits of R69's numbers, each at the place of its value; decimal numbers use the first ten. -/
def asmDigits : List Char := "0123456789abcdef".toList

/-- The value of a digit, hex letters of either case (log 12). -/
def digitOf (c : Char) : Option Nat := asmDigits.idxOf? c.toLower

/-- The number that digits in a base spell, `acc` before them. -/
def numberFrom (base : Nat) : Nat → List Char → Option Nat
  | acc, [] => some acc
  | acc, c :: cs =>
    match digitOf c with
    | some d => if d < base then numberFrom base (acc * base + d) cs else none
    | none => none

/-- "Numbers are decimal or `0x` hex" (R69). -/
def asmNumber : List Char → Option Nat
  | [] => none
  | '0' :: 'x' :: c :: cs => numberFrom 16 0 (c :: cs)
  | c :: cs => numberFrom 10 0 (c :: cs)

/-- "`sp` is written `PAY`, `TX` or `RX` for 0, 1, 2" (R69); a number is taken too, as the vectors of
95_test_vectors.md write `BUFWR 3, 0, 0` (log 12). -/
def asmSpace (cs : List Char) : Option Nat :=
  if cs = ['P', 'A', 'Y'] then some 0
  else if cs = ['T', 'X'] then some 1
  else if cs = ['R', 'X'] then some 2
  else asmNumber cs

/-- The line that a mnemonic and its operand numbers spell (R69, R70). -/
def asmShape (mnemonic : List Char) (args : List Nat) : Option AsmLine :=
  match String.ofList mnemonic, args with
  | "ENCODE", [t, s, r] => some (.encode t s r)
  | "DECODE", [n] => some (.decode n)
  | "RESET", [] => some .reset
  | "SEND", [n] => some (.send n)
  | "RECEIVE", [c] => some (.receive c)
  | "READREG", [a] => some (.readreg a)
  | "BUFWR", [sp, i, d] => some (.bufwr sp i d)
  | "BUFRD", [sp, i] => some (.bufrd sp i)
  | "SENDPKT", [t, s, r] => some (.sendpkt t s r)
  | "LOAD", sp :: i :: d :: ds => some (.load sp i d ds)
  | _, _ => none

/-- The commands whose first operand is a space (R69, R70). -/
def takesSpace (mnemonic : List Char) : Bool :=
  mnemonic = "BUFWR".toList || mnemonic = "BUFRD".toList || mnemonic = "LOAD".toList

/-- The operand numbers of a line (R69). -/
def asmArgs (mnemonic : List Char) (args : List (List Char)) : Option (List Nat) :=
  match takesSpace mnemonic, args with
  | true, sp :: rest => (asmSpace sp).bind fun n => (rest.mapM asmNumber).map (n :: ·)
  | _, _ => args.mapM asmNumber

/-- The command words of one line of text: none of them for a blank or comment line, an assembly error
otherwise where R69 gives no word. -/
def assembleText (text : String) : Option (List CmdWord) :=
  match asmTokens (stripComment text.toList) with
  | [] => some []
  | mnemonic :: args =>
    ((asmArgs mnemonic args).bind (asmShape mnemonic)).bind AsmLine.assemble

end Sys2Proof.Machine
end

