-- ==== Sys2Proof/Safety.lean ====
section
/-! DEFINITION. What a good state of the block is, in the terms the statements use. -/

namespace Sys2Proof.Machine

/-- A transport event the block may issue: no empty write (R82), and a burst read of 1..255 bytes that
returned as many as it asked for (R84, R132). -/
def Event.legal : Event → Bool
  | .write bs => bs ≠ []
  | .readReg _ _ => true
  | .readBurst k bs => 1 ≤ k && k ≤ 255 && bs.length = k
  | .delay _ => true

/-- DRV_STATE and the poll counter fit the step the command has reached: between commands DRV_STATE is
UNINIT or RX (R124), in ReadyWait it is UNINIT (R93), in TxDoneWait it is TX (R94), and a wait that goes on
has not reached its limit (R90, R91). -/
def State.sequencingOk (s : State) : Prop :=
  match s.seq with
  | .idle => s.drv = .uninit ∨ s.drv = .rx
  | .readyWait pcnt => s.drv = .uninit ∧ 1 ≤ pcnt ∧ limitReached s.cfg.readyPollLimit pcnt = false
  | .txWait pcnt => s.drv = .tx ∧ 1 ≤ pcnt ∧ limitReached s.cfg.txPollLimit pcnt = false

/-- The decode results are those of power-on, or they describe a frame: 1..3 source bytes (R23), a bucketed
length (R24), the payload behind the addresses (R25). -/
def State.parsedOk (s : State) : Prop :=
  (s.rDab = 0 ∧ s.rSab = 0 ∧ s.rWlen = 0 ∧ s.rOff = 0) ∨
  (1 ≤ s.rSab.toNat ∧ s.rOff.toNat = 3 + s.rDab.toNat + s.rSab.toNat ∧
    (s.rWlen.toNat ≤ 8 ∨ s.rWlen.toNat = 16 ∨ s.rWlen.toNat = 32 ∨ s.rWlen.toNat = 64))

/-- The invariant of the block: it holds at power-on of every well-formed configuration, and every step
keeps it. -/
structure Inv (s : State) : Prop where
  /-- The configuration is well formed (R10). -/
  cfgOk : s.cfg.wf = true
  /-- MY_ADDR is the configuration input (R26). -/
  myAddrOk : s.myAddr = s.cfg.myAddr
  /-- SEL_N is deasserted between transactions (R28). -/
  selOk : s.selN = 1
  /-- Status codes 10..15 are never written (R104). -/
  codeOk : s.code.toNat ≤ 9
  /-- No byte of PAY_BUF is written outside its 64 (R34, R40). -/
  payOk : Memory.wf Config.maxPayload s.payBuf
  /-- No byte of TX_BUF is written outside its 73 (R34, R40). -/
  txOk : Memory.wf Config.maxFrame s.txBuf
  /-- No byte of RX_BUF is written outside its RX_BUF_SIZE (R34, R40). -/
  rxOk : Memory.wf s.cfg.rxBufSize s.rxBuf
  /-- DRV_STATE and the poll counters (R124). -/
  seqOk : s.sequencingOk
  /-- The shape of the decode results (R22 to R25). -/
  parsedOk : s.parsedOk
  /-- R_TARGET is broadcast or this node, since NotForUs writes nothing (R80, D37). -/
  targetOk : s.rTarget = 0 ∨ s.rTarget = s.myAddr
  /-- R_TARGET fits its R_DAB bytes (R73). -/
  targetFits : s.rTarget.toNat < 2 ^ (8 * s.rDab.toNat)
  /-- R_SOURCE fits its R_SAB bytes (R73). -/
  sourceFits : s.rSource.toNat < 2 ^ (8 * s.rSab.toNat)
  /-- Every event of HIST is legal (R82, R84, R132). -/
  histOk : ∀ e ∈ s.hist, e.legal = true

/-! ### Half duplex, read off HIST (R88; log 13) -/

/-- A write that begins with TXFIFO_HDR: how R88 recognises a TX FIFO write in HIST. -/
def Event.isFifoWrite (c : Config) : Event → Bool
  | .write (b :: _) => b = c.txfifoHdr
  | _ => false

/-- A burst read: how R88 recognises an RX FIFO read in HIST. -/
def Event.isBurst : Event → Bool
  | .readBurst _ _ => true
  | _ => false

/-- What a scan of HIST knows. -/
structure Scan where
  /-- There has been a W([S_SIDLE]), and no W([S_SRX]) or W([S_STX]) since. -/
  idled : Bool
  /-- There has been a W([S_SRX]), and no W([S_STX]) since. -/
  armed : Bool
  /-- So far, every TX FIFO write came while `idled` and every RX FIFO read while `armed`. -/
  ok : Bool
deriving DecidableEq, Repr

/-- The scan at power-on. -/
def Scan.start : Scan := ⟨false, false, true⟩

/-- The scan one event further. -/
def Scan.next (c : Config) (m : Scan) (e : Event) : Scan where
  idled :=
    if e = .write [c.sSidle] then true
    else if e = .write [c.sSrx] ∨ e = .write [c.sStx] then false
    else m.idled
  armed :=
    if e = .write [c.sSrx] then true
    else if e = .write [c.sStx] then false
    else m.armed
  ok := m.ok && (!e.isFifoWrite c || m.idled) && (!e.isBurst || m.armed)

/-- The scan of a whole history. -/
def scanHist (c : Config) (h : List Event) : Scan := h.foldl (Scan.next c) Scan.start

end Sys2Proof.Machine

namespace Sys2Proof

/-- What R88 needs of the configuration to be readable off HIST: no strobe is the byte TXFIFO_HDR, no init
record begins with it, and the init table ends in "enter RX" (R68, R125; log 13). -/
def Config.halfDuplexOk (c : Config) : Prop :=
  c.txfifoHdr ∉ [c.sSidle, c.sStx, c.sSrx, c.sSftx, c.sSfrx] ∧
  ∃ records, Machine.initRecords c.initRom = some records ∧
    (∀ r ∈ records, r.head? ≠ some c.txfifoHdr) ∧ records.getLast? = some [c.sSrx]

end Sys2Proof

namespace Sys2Proof.Machine

/-- The half-duplex discipline of R88: the history so far kept it, and when the block may start a RECEIVE
the chip was last strobed into RX. -/
def State.halfDuplex (s : State) : Prop :=
  (scanHist s.cfg s.hist).ok = true ∧
  (s.seq = .idle → s.drv = .rx → (scanHist s.cfg s.hist).armed = true)

end Sys2Proof.Machine
end

