-- ==== Sys2Proof/Certificates/Slice0/Obligations.lean ====
section
/-! DEFINITION. The statements for the provers. Each docstring names the rule of spec/ it rests on. -/

open Sys2Proof Sys2Proof.Machine

/-! ### What the statements say things with, written from the spec's text and not from the model's -/

namespace Sys2Proof.Spec

/-- The machine run for `k` steps. -/
def run : Nat → State → Host.Outcome State Fault Refusal
  | 0, s => .next s
  | k + 1, s =>
    match step s with
    | .next t => run k t
    | .fault r => .fault r
    | .refused r => .refused r

/-- dab, the top two bits of HDB2 (R60). -/
def dab (hdb2 : Byte) : Nat := (hdb2 >>> 6).toNat

/-- sab, the next two bits of HDB2 (R60). -/
def sab (hdb2 : Byte) : Nat := ((hdb2 >>> 4) &&& 3).toNat

/-- lengthCode, the low four bits of HDB1 (R61). -/
def lengthCode (hdb1 : Byte) : Nat := (hdb1 &&& 0x0F).toNat

/-- wireLength of a valid length code, by the table of R63; 0 for the codes that have none. -/
def wireLength (code : Nat) : Nat :=
  if code ≤ 8 then code else if code = 9 then 16 else if code = 10 then 32 else if code = 11 then 64 else 0

/-- The `k`-byte big-endian number at index `i` of a buffer: the sum of R73. -/
def addressAt (buf : Nat → Byte) (i k : Nat) : Addr :=
  BitVec.ofNat 24 ((List.range k).map fun j => (buf (i + j)).toNat <<< (8 * (k - 1 - j))).sum

/-- The frame length that the three header bytes announce (R65). -/
def frameLength (buf : Nat → Byte) : Nat :=
  3 + dab (buf 1) + sab (buf 1) + wireLength (lengthCode (buf 2))

/-- The status of DECODE n: the tests of R78's pseudocode, in its order. -/
def decodeStatus (rxBufSize : Nat) (myAddr : Addr) (n : Nat) (buf : Nat → Byte) : Status :=
  if n > rxBufSize then .operandError
  else if n < 3 then .truncated
  else if buf 0 ≠ 0x54 then .invalidSync
  else if buf 1 &&& 0x0C ≠ 0 ∨ buf 1 &&& 0x03 ≠ 0 then .invalidHeader
  else if sab (buf 1) = 0 then .invalidHeader
  else if buf 2 &&& 0x80 ≠ 0 ∨ buf 2 &&& 0x70 ≠ 0 ∨ lengthCode (buf 2) = 15 then .invalidHeader
  else if lengthCode (buf 2) ≥ 12 then .invalidHeader
  else if n < 3 + dab (buf 1) then .truncated
  else if ¬ (addressAt buf 3 (dab (buf 1)) = 0 ∨ addressAt buf 3 (dab (buf 1)) = myAddr) then .notForUs
  else if n < frameLength buf then .truncated
  else .ok

/-- The `j`-th answer from here on passes the ready test (R90). -/
def readyAt (s : State) (j : Nat) : Prop := s.answerAt j &&& s.cfg.readyMask = s.cfg.readyValue

/-- The `j`-th answer from here on passes the TX-done test (R91). -/
def doneAt (s : State) (j : Nat) : Prop := s.answerAt j &&& s.cfg.txdoneMask = 0

/-- The events of the first `k` ready polls (R90). -/
def readyPolls (s : State) (k : Nat) : List Event :=
  (List.range k).map fun j => .readReg s.cfg.readyAddr (s.answerAt j)

/-- The events of the first `k` TX-done polls, each after its delay (R91). -/
def txPolls (s : State) (k : Nat) : List Event :=
  (List.range k).flatMap fun j => [.delay s.cfg.txPollUs, .readReg s.cfg.txdoneAddr (s.answerAt j)]

/-- The bytes the transceiver answered in an event (R83, R84). -/
def answered : Event → List Byte
  | .readReg _ v => [v]
  | .readBurst _ bs => bs
  | .write _ => []
  | .delay _ => []

/-- The events of SEND n before its wait (R94). -/
def sendEvents (s : State) (n : Nat) : List Event :=
  [.write [s.cfg.sSftx], .write [s.cfg.sSidle], .write (s.cfg.txfifoHdr :: s.memRead .tx 0 n),
    .write [s.cfg.sStx]]

/-- The state between commands whose next command word is that of `i`. -/
def Presents (s : State) (i : Instr) (ws : List CmdWord) : Prop :=
  s.cfg.wf = true ∧ s.seq = .idle ∧ s.hostWords = encode i :: ws

/-- A command ends with status `e` and changes nothing else (R110). -/
def onlyStatus (s : State) (e : Status) : State := { s with code := e.code, seq := .idle }

end Sys2Proof.Spec

/-! ### Encoding -/

/-- R52 to R54: decoding the word of a command gives the command, for every operand of every command. -/
def Obligations.DecodeInvertsEncode : Prop :=
  ∀ i : Instr, i.wf = true → decode (encode i) = .ok i

/-- R52 to R56: a legal word is the word of the command it decodes to, so no bit of it is ignored. -/
def Obligations.EncodeInvertsDecode : Prop :=
  ∀ (w : CmdWord) (i : Instr), decode w = .ok i → encode i = w

/-- R55: the field-by-field decoder and the match/mask table agree on every word, and a word that matches
no row is illegal. -/
def Obligations.DecoderAgreesWithMaskTable : Prop :=
  ∀ w : CmdWord,
    (opRowOf w).map OpRow.mnemonic = (decode w).toOption.map Instr.mnemonic ∧
    (opRowOf w = none ↔ ∃ e, decode w = .error e)

/-- R55: no word belongs to two rows of the table, so "first match wins" never has to choose. -/
def Obligations.OpcodeRowsAreDisjoint : Prop :=
  ∀ (w : CmdWord) (r r' : OpRow), r ∈ opTable → r' ∈ opTable → r.covers w = true → r'.covers w = true → r = r'

/-- R56, first sentence: exactly which words are illegal. -/
def Obligations.IllegalWordsExactly : Prop :=
  ∀ w : CmdWord, (∃ e, decode w = .error e) ↔
    (w >>> 60 = 0 ∨ 9 ≤ (w >>> 60).toNat ∨ (w >>> 56) &&& 0xF ≠ 0 ∨
      ((w >>> 60).toNat ∈ [2, 4, 5, 6] ∧ (w >>> 8) &&& 0xFFFFFFFFFFFF ≠ 0) ∨
      (w >>> 60 = 3 ∧ w &&& 0xFFFFFFFFFFFFFF ≠ 0) ∨
      (w >>> 60 = 7 ∧ ((w >>> 34) &&& 0x3FFFFF ≠ 0 ∨ (w >>> 16) &&& 0xFFFF ≠ 0)) ∨
      (w >>> 60 = 8 ∧ ((w >>> 34) &&& 0x3FFFFF ≠ 0 ∨ (w >>> 16) &&& 0xFFFF ≠ 0 ∨ w &&& 0xFF ≠ 0)))

/-- 95_test_vectors.md 2.3 to 2.10: words written out there decode to the commands they stand for. -/
def Obligations.WorkedWordsDecode : Prop :=
  decode 0x10ABCDEF12345611 = .ok (.encode 0xABCDEF 0x123456 17) ∧
  decode 0x2000000000000009 = .ok (.decode 9) ∧
  decode 0x3000000000000000 = .ok .reset ∧
  decode 0x4000000000000004 = .ok (.send 4) ∧
  decode 0x5000000000000040 = .ok (.receive 64) ∧
  decode 0x6000000000000035 = .ok (.readreg 0x35) ∧
  decode 0x7000000100004877 = .ok (.bufwr .tx 72 0x77) ∧
  decode 0x800000020000C800 = .ok (.bufrd .rx 200)

/-! ### The step -/

/-- R55, R113: between commands, a word that decodes to `i` is taken and `i` runs, by itself (the list of
presented words is the model's: log 2). -/
def Obligations.StepRunsTheDecodedCommand : Prop :=
  ∀ (s : State) (w : CmdWord) (ws : List CmdWord) (i : Instr),
    s.cfg.wf = true → s.seq = .idle → s.hostWords = w :: ws → decode w = .ok i →
    step s = exec i { s with hostWords := ws }

/-- R102: an illegal word ends with IllegalCommand and changes nothing else, in every driver state. -/
def Obligations.IllegalWordWritesOnlyStatus : Prop :=
  ∀ (s : State) (w : CmdWord) (ws : List CmdWord) (e : DecodeError),
    s.cfg.wf = true → s.seq = .idle → s.hostWords = w :: ws → decode w = .error e →
    step s = .next { s with hostWords := ws, code := 9 }

/-- R122 and the model's choice of log 2: with no word presented, the block waits. -/
def Obligations.BlockWaitsWithoutWord : Prop :=
  ∀ s : State, s.cfg.wf = true → s.seq = .idle → s.hostWords = [] → step s = .next s

/-- R10, R120: a well-formed configuration always has a next state, whatever the command word and the
answers; an ill-formed one has no step at all (`Config.wf` also asks the range of INIT_ROM_SIZE: log 7). -/
def Obligations.StepStopsExactlyOnIllFormedConfiguration : Prop :=
  ∀ s : State, (s.cfg.wf = true → ∃ t, step s = .next t) ∧
    (s.cfg.wf = false → step s = .refused .illFormedConfiguration)

/-- R113, R42: while a command is in progress no further word is taken, whatever waits, and the host read
port answers nothing (that it answers nothing is the model's choice of log 11). -/
def Obligations.BusyBlockTakesNoWord : Prop :=
  ∀ (s t : State), s.seq ≠ .idle → step s = .next t →
    t.hostWords = s.hostWords ∧ (∀ num, s.hostRead num = none) ∧
    ∀ ws, step { s with hostWords := ws } = .next { t with hostWords := ws }

/-- R26, R35, R50: no step changes MY_ADDR, INIT_ROM or any other configuration. -/
def Obligations.ConfigurationNeverChanges : Prop :=
  ∀ s t : State, step s = .next t → t.cfg = s.cfg ∧ t.myAddr = s.myAddr

/-- R30, R47: HIST only grows at its end, and the answers are taken in order, one draw for each byte
(the stream of answers is the model's: log 3). -/
def Obligations.HistoryOnlyGrows : Prop :=
  ∀ s t : State, step s = .next t →
    ∃ (es : List Event) (k : Nat), t.hist = s.hist ++ es ∧ t.answers = s.answers.drop k ∧
      t.draws = s.draws + k ∧
      es.flatMap Spec.answered = s.answerBytes k

/-- R110, R105: a command that ends with a status other than OK and ChipNotReady has changed R_STATUS.CODE
and nothing else of the block. -/
def Obligations.FailedCommandWritesOnlyStatus : Prop :=
  ∀ (s t : State) (w : CmdWord) (ws : List CmdWord),
    s.seq = .idle → s.hostWords = w :: ws → step s = .next t →
    t.seq = .idle → t.code ≠ Status.ok.code → t.code ≠ Status.chipNotReady.code →
    t = { s with hostWords := ws, code := t.code }

/-- R28, R105, R107, R110: the step that ends a wait in ChipNotReady leaves DRV_STATE = UNINIT and SEL_N
deasserted, takes the one answer of its last poll and the word it ran, if it ran one, adds to HIST, writes
R_STATUS.CODE, and changes nothing else: no buffer and no other result register (words and answers as data
are the model's: log 2, log 3). -/
def Obligations.ChipNotReadyLeavesUninit : Prop :=
  ∀ (s t : State), (s.seq ≠ .idle ∨ s.hostWords ≠ []) → step s = .next t →
    t.seq = .idle → t.code = Status.chipNotReady.code →
    s.hist <+: t.hist ∧
    t = { s with
      drv := .uninit
      code := 6
      seq := .idle
      selN := 1
      hist := t.hist
      hostWords := if s.seq = .idle then s.hostWords.tail else s.hostWords
      answers := s.answers.drop 1
      draws := s.draws + 1 }

/-! ### Power-on and invariants -/

/-- R33, R121: what power-on reset leaves, for every configuration; every buffer byte is its draw, a free
value (that clause is the model's choice of log 4; the rest is R33's table). -/
def Obligations.PowerOnResetState : Prop :=
  ∀ c : Config,
    let s := State.powerOn c
    s.rStatus = 0 ∧ s.rData = 0 ∧ s.rTarget = 0 ∧ s.rSource = 0 ∧ s.rDab = 0 ∧ s.rSab = 0 ∧ s.rWlen = 0 ∧
    s.rOff = 0 ∧ s.drv = .uninit ∧ s.selN = 1 ∧ s.myAddr = c.myAddr ∧ s.cfg.initRom = c.initRom ∧
    s.hist = [] ∧ ∀ sp i, s.readByte sp i = Config.powerOnByte sp i

/-- R10, R33: the invariant holds after power-on reset of every well-formed configuration, so at
`State.reset` (the model's choice of configuration: log 5). -/
def Obligations.PowerOnMeetsInvariant : Prop :=
  (∀ c : Config, c.wf = true → Inv (State.powerOn c)) ∧ Inv State.reset

/-- R28, R34, R40, R80, R104, R124, R132: every step keeps the invariant. -/
def Obligations.EveryStepKeepsInvariant : Prop :=
  ∀ s t : State, Inv s → step s = .next t → Inv t

/-- R124: between commands DRV_STATE is UNINIT or RX, and how each command leaves it. -/
def Obligations.DriverRestsUninitOrRx : Prop :=
  (∀ s t : State, Inv s → step s = .next t → t.seq = .idle → t.drv = .uninit ∨ t.drv = .rx) ∧
  (∀ (i : Instr) (s t : State), exec i s = .next t → t.seq = .idle →
    match i with
    | .reset => (t.code = 0 ∧ t.drv = .rx) ∨ (t.code = 6 ∧ t.drv = .uninit)
    | .send _ =>
      (t.code = 0 ∧ t.drv = .rx) ∨ (t.code = 6 ∧ t.drv = .uninit) ∨ (t.drv = s.drv ∧ t.hist = s.hist)
    | .receive _ => (t.code = 0 ∧ t.drv = .rx) ∨ (t.drv = s.drv ∧ t.hist = s.hist)
    | _ => t.drv = s.drv) ∧
  (∀ s t : State, s.seq ≠ .idle → step s = .next t → t.seq = .idle →
    (t.code = 0 ∧ t.drv = .rx) ∨ (t.code = 6 ∧ t.drv = .uninit))

/-- R88 at power-on: the empty history keeps the half-duplex discipline. -/
def Obligations.PowerOnMeetsHalfDuplex : Prop :=
  ∀ c : Config, (State.powerOn c).halfDuplex

/-- R88, read off HIST under the conditions of log 13: every TX FIFO write comes after an IDLE strobe with
no RX or TX strobe between, and every RX FIFO read after an RX strobe with no TX strobe between. -/
def Obligations.EveryStepKeepsHalfDuplex : Prop :=
  ∀ s t : State, s.cfg.halfDuplexOk → s.halfDuplex → step s = .next t → t.halfDuplex

/-! ### Address packing and length buckets -/

/-- R71: abc(v) is the least count of bytes that v fits, a target field has abc(v) bytes and a source field
at least one. -/
def Obligations.AddressByteCountIsLeast : Prop :=
  ∀ v : Addr, abc v ≤ 3 ∧ v.toNat < 2 ^ (8 * abc v) ∧ (∀ k, v.toNat < 2 ^ (8 * k) → abc v ≤ k) ∧
    (∀ k, 1 ≤ k → k ≤ 3 → (k ≤ abc v ↔ v.toNat >>> (8 * (k - 1)) ≠ 0)) ∧
    abcTarget v = abc v ∧ abcSource v = max 1 (abc v)

/-- R72: the bytes of a field, most significant first. -/
def Obligations.PackedBytesMostSignificantFirst : Prop :=
  ∀ (v : Addr) (k : Nat), k ≤ 3 → abc v ≤ k →
    (pack v k).length = k ∧
    ∀ i, i < k → ((pack v k)[i]?).map BitVec.toNat = some ((v.toNat >>> (8 * (k - 1 - i))) &&& 0xFF)

/-- R73: unpack is the big-endian sum, non-minimal fields included, and it inverts pack. -/
def Obligations.UnpackInvertsPack : Prop :=
  (∀ bs : List Byte, bs.length ≤ 3 →
    (unpack bs).toNat =
      ((List.range bs.length).map fun i => (bs.getD i 0).toNat <<< (8 * (bs.length - 1 - i))).sum) ∧
  unpack [] = 0 ∧ unpack [0x00, 0x05] = 5 ∧
  ∀ (v : Addr) (k : Nat), abc v ≤ k → k ≤ 3 → unpack (pack v k) = v

/-- R74: the length buckets and their inverse. -/
def Obligations.LengthBucketsRoundUp : Prop :=
  (∀ r, r ≤ 8 → lenCode r = some (r, r)) ∧
  (∀ r, 9 ≤ r → r ≤ 16 → lenCode r = some (9, 16)) ∧
  (∀ r, 17 ≤ r → r ≤ 32 → lenCode r = some (10, 32)) ∧
  (∀ r, 33 ≤ r → r ≤ 64 → lenCode r = some (11, 64)) ∧
  (∀ r, 64 < r → lenCode r = none) ∧
  (∀ c, c ≤ 8 → wireLen c = some c) ∧ wireLen 9 = some 16 ∧ wireLen 10 = some 32 ∧ wireLen 11 = some 64 ∧
  (∀ c, 12 ≤ c → wireLen c = none) ∧
  (∀ r code wl, lenCode r = some (code, wl) → wireLen code = some wl ∧ r ≤ wl ∧ wl ≤ 64)

/-! ### ENCODE and DECODE -/

/-- R76: ENCODE with r ≤ 64 writes the frame to TX_BUF[0..L) and L to R_DATA, and nothing else. -/
def Obligations.EncodeWritesTheFrame : Prop :=
  ∀ (t src : Addr) (r : Byte) (s : State) (code wl : Nat), lenCode r.toNat = some (code, wl) →
    ∃ s', exec (.encode t src r) s = .next s' ∧
      s'.memRead .tx 0 (3 + abcTarget t + abcSource src + wl) =
        ([0x54, (BitVec.ofNat 8 (abcTarget t) <<< 6) ||| (BitVec.ofNat 8 (abcSource src) <<< 4),
          BitVec.ofNat 8 code] : List Byte) ++ pack t (abcTarget t) ++ pack src (abcSource src) ++ s.memRead .pay 0 wl ∧
      s'.rData.toNat = 3 + abcTarget t + abcSource src + wl ∧
      (∀ a, 3 + abcTarget t + abcSource src + wl ≤ a → s'.readByte .tx a = s.readByte .tx a) ∧
      s' = { s with txBuf := s'.txBuf, rData := s'.rData, code := 0, seq := .idle }

/-- R76: ENCODE with r > 64 ends with LengthOverflow and changes nothing else. -/
def Obligations.EncodeOverflowWritesOnlyStatus : Prop :=
  ∀ (t src : Addr) (r : Byte) (s : State), 64 < r.toNat →
    exec (.encode t src r) s = .next (Spec.onlyStatus s .lengthOverflow)

/-- R77: every frame ENCODE writes passes every header check of DECODE and is at most 73 bytes long. -/
def Obligations.EncodedFramePassesHeaderChecks : Prop :=
  ∀ (t src : Addr) (r : Byte) (s s' : State), r.toNat ≤ 64 → exec (.encode t src r) s = .next s' →
    s'.readByte .tx 0 = 0x54 ∧ s'.readByte .tx 1 &&& 0x0F = 0 ∧ 1 ≤ Spec.sab (s'.readByte .tx 1) ∧
    s'.readByte .tx 2 &&& 0xF0 = 0 ∧ Spec.lengthCode (s'.readByte .tx 2) ≤ 11 ∧
    s'.rData.toNat = Spec.frameLength (s'.readByte .tx) ∧ s'.rData.toNat ≤ 73 ∧
    hdb2Invalid (s'.readByte .tx 1) = false ∧ hdb1Invalid (s'.readByte .tx 2) = false ∧
    wireLen (hdb1Code (s'.readByte .tx 2)).toNat = some (Spec.wireLength (Spec.lengthCode (s'.readByte .tx 2)))

/-- R78, R109: DECODE always ends, with the status that the tests of R78 give in their order, and a status
other than OK changes nothing else. -/
def Obligations.DecodeStatusInSpecOrder : Prop :=
  ∀ (n : Byte) (s : State), ∃ t, exec (.decode n) s = .next t ∧
    t.code = (Spec.decodeStatus s.cfg.rxBufSize s.myAddr n.toNat (s.readByte .rx)).code ∧
    (Spec.decodeStatus s.cfg.rxBufSize s.myAddr n.toNat (s.readByte .rx) ≠ .ok →
      t = Spec.onlyStatus s (Spec.decodeStatus s.cfg.rxBufSize s.myAddr n.toNat (s.readByte .rx)))

/-- R78: DECODE of a frame that passes every test writes the six results, and nothing else. -/
def Obligations.DecodeWritesTheResults : Prop :=
  ∀ (n : Byte) (s : State),
    Spec.decodeStatus s.cfg.rxBufSize s.myAddr n.toNat (s.readByte .rx) = .ok →
    let h2 := s.readByte .rx 1
    let wl := Spec.wireLength (Spec.lengthCode (s.readByte .rx 2))
    exec (.decode n) s = .next { s with
      rTarget := Spec.addressAt (s.readByte .rx) 3 (Spec.dab h2)
      rSource := Spec.addressAt (s.readByte .rx) (3 + Spec.dab h2) (Spec.sab h2)
      rDab := BitVec.ofNat 2 (Spec.dab h2)
      rSab := BitVec.ofNat 2 (Spec.sab h2)
      rWlen := BitVec.ofNat 7 wl
      rOff := BitVec.ofNat 4 (3 + Spec.dab h2 + Spec.sab h2)
      code := 0
      seq := .idle }

/-- R80: of a frame that passes every other test, the filter accepts it exactly when its target is 0 or
MY_ADDR. -/
def Obligations.AddressFilterIsExact : Prop :=
  ∀ (n : Byte) (s : State) (target : Addr),
    target = Spec.addressAt (s.readByte .rx) 3 (Spec.dab (s.readByte .rx 1)) →
    Spec.decodeStatus s.cfg.rxBufSize target n.toNat (s.readByte .rx) = .ok →
    ∃ t, exec (.decode n) s = .next t ∧
      (t.code = Status.ok.code ↔ target = 0 ∨ target = s.myAddr) ∧
      (t.code = Status.notForUs.code ↔ ¬ (target = 0 ∨ target = s.myAddr))

/-- R78 (and "stateless, pure transform"): what DECODE n gives depends on MY_ADDR, RX_BUF_SIZE and the n
valid bytes alone. -/
def Obligations.DecodeDependsOnlyOnValidBytes : Prop :=
  ∀ (n : Byte) (s₁ s₂ : State), s₁.myAddr = s₂.myAddr → s₁.cfg.rxBufSize = s₂.cfg.rxBufSize →
    (∀ i, i < n.toNat → s₁.readByte .rx i = s₂.readByte .rx i) →
    ∃ t₁ t₂, exec (.decode n) s₁ = .next t₁ ∧ exec (.decode n) s₂ = .next t₂ ∧ t₁.code = t₂.code ∧
      (t₁.code = Status.ok.code →
        t₁.rTarget = t₂.rTarget ∧ t₁.rSource = t₂.rSource ∧ t₁.rDab = t₂.rDab ∧ t₁.rSab = t₂.rSab ∧
        t₁.rWlen = t₂.rWlen ∧ t₁.rOff = t₂.rOff)

/-- R81: what ENCODE writes, DECODE reads back, wherever the frame was carried to; a frame for another node
ends with NotForUs. -/
def Obligations.CodecRoundTrip : Prop :=
  ∀ (t src : Addr) (r : Byte) (s s₁ s₂ : State), r.toNat ≤ 64 → exec (.encode t src r) s = .next s₁ →
    73 ≤ s₂.cfg.rxBufSize → (∀ i, i < s₁.rData.toNat → s₂.readByte .rx i = s₁.readByte .tx i) →
    ((t = 0 ∨ t = s₂.myAddr) → ∃ s₃, exec (.decode s₁.rData) s₂ = .next s₃ ∧
      s₃.code = Status.ok.code ∧ s₃.rTarget = t ∧ s₃.rSource = src ∧
      (∀ code wl, lenCode r.toNat = some (code, wl) → s₃.rWlen.toNat = wl ∧ r.toNat ≤ wl) ∧
      s₃.rOff.toNat = 3 + abcTarget t + abcSource src ∧
      ∀ i, i < r.toNat → s₃.readByte .rx (s₃.rOff.toNat + i) = s.readByte .pay i) ∧
    (¬ (t = 0 ∨ t = s₂.myAddr) →
      exec (.decode s₁.rData) s₂ = .next (Spec.onlyStatus s₂ .notForUs))

/-! ### RESET -/

/-- R67, R92: the walk of INIT_ROM finds the records of exactly the tables R67 describes, whatever follows
the terminator. -/
def Obligations.InitTableWalkReadsItsFormat : Prop :=
  (∀ (records : List (List Byte)) (tail : List Byte),
    (∀ r ∈ records, 1 ≤ r.length ∧ r.length ≤ 255) →
    initRecords (records.flatMap (fun r => BitVec.ofNat 8 r.length :: r) ++ 0 :: tail) = some records) ∧
  (∀ (rom : List Byte) (records : List (List Byte)), initRecords rom = some records →
    (∀ r ∈ records, 1 ≤ r.length ∧ r.length ≤ 255) ∧
    ∃ tail, rom = records.flatMap (fun r => BitVec.ofNat 8 r.length :: r) ++ 0 :: tail)

/-- R93: RESET whose first poll finds the chip ready sends every init record and ends RX-armed, with OK. -/
def Obligations.ResetCompletesWhenReady : Prop :=
  ∀ (s : State) (records : List (List Byte)), initRecords s.cfg.initRom = some records →
    Spec.readyAt s 0 →
    exec .reset s = .next { s with
      drv := .rx
      code := 0
      seq := .idle
      selN := 1
      hist := s.hist ++ [.readReg s.cfg.readyAddr s.answer] ++ records.map Event.write
      answers := s.answers.drop 1
      draws := s.draws + 1 }

/-- R90, R93 (one poll is one step: log 1): RESET ends at its first ready poll, however many polls failed
before it, with one register read for each poll and then one write for each record. -/
def Obligations.ResetEndsAtFirstReadyPoll : Prop :=
  ∀ (s : State) (ws : List CmdWord) (records : List (List Byte)) (n : Nat),
    Spec.Presents s .reset ws → initRecords s.cfg.initRom = some records →
    (∀ j, j < n → ¬ Spec.readyAt s j) → Spec.readyAt s n →
    (∀ l, s.cfg.readyPollLimit = some l → n < l) →
    Spec.run (n + 1) s = .next { s with
      drv := .rx
      code := 0
      seq := .idle
      selN := 1
      hostWords := ws
      hist := s.hist ++ Spec.readyPolls s (n + 1) ++ records.map Event.write
      answers := s.answers.drop (n + 1)
      draws := s.draws + (n + 1) }

/-- R97: with no limit, a RESET that the chip never answers ready runs for ever: after any number of polls
it is still polling. -/
def Obligations.ResetNeverReadyNeverEnds : Prop :=
  ∀ (s : State) (ws : List CmdWord) (n : Nat), Spec.Presents s .reset ws →
    s.cfg.readyPollLimit = none → (∀ j, j ≤ n → ¬ Spec.readyAt s j) →
    Spec.run (n + 1) s = .next { s with
      drv := .uninit
      seq := .readyWait (n + 1)
      selN := 1
      hostWords := ws
      hist := s.hist ++ Spec.readyPolls s (n + 1)
      answers := s.answers.drop (n + 1)
      draws := s.draws + (n + 1) }

/-- R90, R107: with a limit, a RESET not answered ready ends with ChipNotReady after exactly that many
polls, sends no record and leaves DRV_STATE = UNINIT. -/
def Obligations.ResetPollLimitGivesChipNotReady : Prop :=
  ∀ (s : State) (ws : List CmdWord) (l : Nat), Spec.Presents s .reset ws →
    s.cfg.readyPollLimit = some l → (∀ j, j < l → ¬ Spec.readyAt s j) →
    Spec.run l s = .next { s with
      drv := .uninit
      code := 6
      seq := .idle
      selN := 1
      hostWords := ws
      hist := s.hist ++ Spec.readyPolls s l
      answers := s.answers.drop l
      draws := s.draws + l }

/-! ### SEND -/

/-- R94: SEND whose first poll finds TX done issues the transactions of R94 in order and ends RX-armed,
with OK. -/
def Obligations.SendCompletesWhenDone : Prop :=
  ∀ (n : Byte) (s : State), 1 ≤ n.toNat → n.toNat ≤ 73 → s.drv = .rx → Spec.doneAt s 0 →
    exec (.send n) s = .next { s with
      drv := .rx
      code := 0
      seq := .idle
      selN := 1
      hist := s.hist ++ Spec.sendEvents s n.toNat ++
        [.delay s.cfg.txPollUs, .readReg s.cfg.txdoneAddr s.answer] ++
        [.write [s.cfg.sSidle], .write [s.cfg.sSrx]]
      answers := s.answers.drop 1
      draws := s.draws + 1 }

/-- R91, R94 (one poll is one step: log 1): SEND ends at its first done poll, however many polls failed
before it, each poll after its delay. -/
def Obligations.SendEndsAtFirstDonePoll : Prop :=
  ∀ (s : State) (ws : List CmdWord) (n : Byte) (m : Nat),
    Spec.Presents s (.send n) ws → 1 ≤ n.toNat → n.toNat ≤ 73 → s.drv = .rx →
    (∀ j, j < m → ¬ Spec.doneAt s j) → Spec.doneAt s m →
    (∀ l, s.cfg.txPollLimit = some l → m < l) →
    Spec.run (m + 1) s = .next { s with
      code := 0
      seq := .idle
      selN := 1
      hostWords := ws
      hist := s.hist ++ Spec.sendEvents s n.toNat ++ Spec.txPolls s (m + 1) ++
        [.write [s.cfg.sSidle], .write [s.cfg.sSrx]]
      answers := s.answers.drop (m + 1)
      draws := s.draws + (m + 1) }

/-- R97: with no limit, a SEND that the chip never answers done runs for ever, in TX. -/
def Obligations.SendNeverDoneNeverEnds : Prop :=
  ∀ (s : State) (ws : List CmdWord) (n : Byte) (m : Nat),
    Spec.Presents s (.send n) ws → 1 ≤ n.toNat → n.toNat ≤ 73 → s.drv = .rx →
    s.cfg.txPollLimit = none → (∀ j, j ≤ m → ¬ Spec.doneAt s j) →
    Spec.run (m + 1) s = .next { s with
      drv := .tx
      seq := .txWait (m + 1)
      selN := 1
      hostWords := ws
      hist := s.hist ++ Spec.sendEvents s n.toNat ++ Spec.txPolls s (m + 1)
      answers := s.answers.drop (m + 1)
      draws := s.draws + (m + 1) }

/-- R91, R107: with a limit, a SEND not answered done ends with ChipNotReady after exactly that many polls,
issues no further strobe and leaves DRV_STATE = UNINIT. -/
def Obligations.SendPollLimitGivesChipNotReady : Prop :=
  ∀ (s : State) (ws : List CmdWord) (n : Byte) (l : Nat),
    Spec.Presents s (.send n) ws → 1 ≤ n.toNat → n.toNat ≤ 73 → s.drv = .rx →
    s.cfg.txPollLimit = some l → (∀ j, j < l → ¬ Spec.doneAt s j) →
    Spec.run l s = .next { s with
      drv := .uninit
      code := 6
      seq := .idle
      selN := 1
      hostWords := ws
      hist := s.hist ++ Spec.sendEvents s n.toNat ++ Spec.txPolls s l
      answers := s.answers.drop l
      draws := s.draws + l }

/-- R94, R95, R109: an operand out of range ends SEND and RECEIVE with OperandError, whatever DRV_STATE is,
and changes nothing else. -/
def Obligations.SendReceiveOperandErrors : Prop :=
  (∀ (n : Byte) (s : State), n = 0 ∨ 73 < n.toNat →
    exec (.send n) s = .next (Spec.onlyStatus s .operandError)) ∧
  (∀ (c : Byte) (s : State), c = 0 ∨ s.cfg.rxBufSize < c.toNat →
    exec (.receive c) s = .next (Spec.onlyStatus s .operandError))

/-- R89 (with the order of R109): SEND and RECEIVE need DRV_STATE = RX, RESET and READREG run in every
driver state, and the other four commands do the same in every driver state and leave it as it is. -/
def Obligations.DriverStateGatesOnlySendAndReceive : Prop :=
  (∀ (n : Byte) (s : State), 1 ≤ n.toNat → n.toNat ≤ 73 → s.drv ≠ .rx →
    exec (.send n) s = .next (Spec.onlyStatus s .notInitialised)) ∧
  (∀ (c : Byte) (s : State), 1 ≤ c.toNat → c.toNat ≤ s.cfg.rxBufSize → s.drv ≠ .rx →
    exec (.receive c) s = .next (Spec.onlyStatus s .notInitialised)) ∧
  (∀ (s : State) (d : DrvState), exec .reset { s with drv := d } = exec .reset s) ∧
  (∀ (a : Byte) (s t : State) (d : DrvState), exec (.readreg a) s = .next t →
    t.code = 0 ∧ exec (.readreg a) { s with drv := d } = .next { t with drv := d }) ∧
  (∀ (i : Instr) (s t : State) (d : DrvState), i.mnemonic ∈ ["ENCODE", "DECODE", "BUFWR", "BUFRD"] →
    exec i s = .next t →
    t.drv = s.drv ∧ t.hist = s.hist ∧ exec i { s with drv := d } = .next { t with drv := d })

/-- R98: SEND that ends OK leaves the chip RX-armed, W([S_SRX]) the last event of HIST, and a following
RECEIVE is legal at once. -/
def Obligations.SendLeavesChipRxArmed : Prop :=
  ∀ s t : State, ((∃ n ws, Spec.Presents s (.send n) ws) ∨ ∃ pcnt, s.seq = .txWait pcnt) →
    step s = .next t → t.seq = .idle → t.code = Status.ok.code →
    t.drv = .rx ∧ t.hist.getLast? = some (.write [s.cfg.sSrx]) ∧
    ∀ c : Byte, 1 ≤ c.toNat → c.toNat ≤ s.cfg.rxBufSize →
      ∃ u, exec (.receive c) t = .next u ∧ u.code = Status.ok.code

/-! ### RECEIVE and READREG -/

/-- R95: RECEIVE with occupancy reads min(occ, c) bytes into RX_BUF, resets the framing and ends RX-armed,
with OK. -/
def Obligations.ReceiveStoresTheBurst : Prop :=
  ∀ (c : Byte) (s : State) (k : Nat), 1 ≤ c.toNat → c.toNat ≤ s.cfg.rxBufSize → s.drv = .rx →
    k = min (s.answer &&& s.cfg.rxoccMask).toNat c.toNat → k ≠ 0 →
    ∃ t, exec (.receive c) s = .next t ∧
      (∀ j, j < k → t.readByte .rx j = s.answerAt (1 + j)) ∧
      (∀ j, k ≤ j → t.readByte .rx j = s.readByte .rx j) ∧
      t = { s with
        rxBuf := t.rxBuf
        rData := BitVec.ofNat 8 k
        drv := .rx
        code := 0
        seq := .idle
        selN := 1
        hist := s.hist ++ [.readReg s.cfg.rxoccAddr s.answer,
          .readBurst k ((List.range k).map fun j => s.answerAt (1 + j)),
          .write [s.cfg.sSidle], .write [s.cfg.sSfrx], .write [s.cfg.sSftx], .write [s.cfg.sSrx]]
        answers := s.answers.drop (1 + k)
        draws := s.draws + (1 + k) }

/-- R95, D43: RECEIVE with occupancy 0 reads no FIFO byte, issues no strobe, and ends OK with R_DATA = 0. -/
def Obligations.ReceiveEmptyTouchesNoFifo : Prop :=
  ∀ (c : Byte) (s : State), 1 ≤ c.toNat → c.toNat ≤ s.cfg.rxBufSize → s.drv = .rx →
    s.answer &&& s.cfg.rxoccMask = 0 →
    exec (.receive c) s = .next { s with
      rData := 0
      code := 0
      seq := .idle
      selN := 1
      hist := s.hist ++ [.readReg s.cfg.rxoccAddr s.answer]
      answers := s.answers.drop 1
      draws := s.draws + 1 }

/-- R96: READREG in every state reads one register into R_DATA and ends OK. -/
def Obligations.ReadregReturnsTheAnswer : Prop :=
  ∀ (a : Byte) (s : State), exec (.readreg a) s = .next { s with
    rData := s.answer
    code := 0
    seq := .idle
    selN := 1
    hist := s.hist ++ [.readReg a s.answer]
    answers := s.answers.drop 1
    draws := s.draws + 1 }

/-! ### Buffers, host port, assembler -/

/-- R100: BUFWR in range writes the one byte it names, and nothing else. -/
def Obligations.BufwrWritesOneByte : Prop :=
  ∀ (sp : SpaceCode) (idx data : Byte) (s : State) (space : Space),
    spaceOf sp = some space → idx.toNat < s.sizeOf space →
    ∃ t, exec (.bufwr sp idx data) s = .next t ∧ t.readByte space idx.toNat = data ∧
      (∀ sp' a, (sp', a) ≠ (space, idx.toNat) → t.readByte sp' a = s.readByte sp' a) ∧
      t = { s with payBuf := t.payBuf, txBuf := t.txBuf, rxBuf := t.rxBuf, code := 0, seq := .idle }

/-- R101: BUFRD in range reads the byte it names into R_DATA, and changes nothing else. -/
def Obligations.BufrdReadsOneByte : Prop :=
  ∀ (sp : SpaceCode) (idx : Byte) (s : State) (space : Space),
    spaceOf sp = some space → idx.toNat < s.sizeOf space →
    exec (.bufrd sp idx) s =
      .next { s with rData := s.readByte space idx.toNat, code := 0, seq := .idle }

/-- R99: the space codes, the sizes, and the operand errors of BUFWR and BUFRD, which change nothing but
R_STATUS.CODE. -/
def Obligations.BufferOperandErrors : Prop :=
  spaceOf (spaceCodeOf 0) = some .pay ∧ spaceOf (spaceCodeOf 1) = some .tx ∧
  spaceOf (spaceCodeOf 2) = some .rx ∧ spaceCodeOf 3 = .reserved ∧
  (∀ s : State, s.sizeOf .pay = 64 ∧ s.sizeOf .tx = 73 ∧ s.sizeOf .rx = s.cfg.rxBufSize) ∧
  ∀ (sp : SpaceCode) (idx data : Byte) (s : State),
    (sp = .reserved ∨ ∃ space, spaceOf sp = some space ∧ s.sizeOf space ≤ idx.toNat) →
    exec (.bufwr sp idx data) s = .next (Spec.onlyStatus s .operandError) ∧
    exec (.bufrd sp idx) s = .next (Spec.onlyStatus s .operandError)

/-- R50: a BUFWR is seen by a later BUFRD of the same byte. -/
def Obligations.BufwrIsSeenByBufrd : Prop :=
  ∀ (sp : SpaceCode) (idx data : Byte) (s t : State) (space : Space),
    spaceOf sp = some space → idx.toNat < s.sizeOf space → exec (.bufwr sp idx data) s = .next t →
    ∃ u, exec (.bufrd sp idx) t = .next u ∧ u.rData = data ∧ u.code = Status.ok.code

/-- R32, R113: what the host reads between commands, register by register, zero-extended; reserved numbers
read 0. -/
def Obligations.HostReadsEveryRegister : Prop :=
  ∀ s : State, s.seq = .idle →
    s.hostRead 0 = some (s.rStatus.setWidth 32) ∧ s.hostRead 1 = some (s.rData.setWidth 32) ∧
    s.hostRead 2 = some (s.rTarget.setWidth 32) ∧ s.hostRead 3 = some (s.rSource.setWidth 32) ∧
    s.hostRead 4 = some (s.rDab.setWidth 32) ∧ s.hostRead 5 = some (s.rSab.setWidth 32) ∧
    s.hostRead 6 = some (s.rWlen.setWidth 32) ∧ s.hostRead 7 = some (s.rOff.setWidth 32) ∧
    s.hostRead 8 = some (s.myAddr.setWidth 32) ∧
    ∀ num : BitVec 4, 9 ≤ num.toNat → s.hostRead num = some 0

/-- R18, R27: the fields of R_STATUS. -/
def Obligations.StatusRegisterFields : Prop :=
  ∀ s : State, s.rStatus.extractLsb' 0 4 = s.code ∧ s.rStatus.extractLsb' 4 2 = s.drv.bits ∧
    s.rStatus.extractLsb' 6 2 = 0 ∧
    DrvState.bits .uninit = 0b00 ∧ DrvState.bits .idle = 0b01 ∧ DrvState.bits .tx = 0b10 ∧
    DrvState.bits .rx = 0b11

/-- R69, R70: the assembler gives legal command words only. -/
def Obligations.AssemblerGivesLegalWords : Prop :=
  ∀ (text : String) (ws : List CmdWord), assembleText text = some ws → ∀ w ∈ ws, ∃ i, decode w = .ok i

/-- R70: SENDPKT is ENCODE and then SEND of exactly the length that ENCODE will put into R_DATA. -/
def Obligations.SendpktSendsTheEncodedFrame : Prop :=
  ∀ (t src : Addr) (r : Byte) (s : State), r.toNat ≤ 64 →
    ∃ s', exec (.encode t src r) s = .next s' ∧
      (AsmLine.sendpkt t.toNat src.toNat r.toNat).assemble =
        some [encode (.encode t src r), encode (.send s'.rData)]
end

