-- ==== Sys2Proof/Laws/Bits.lean ====
section
/-! SUPPORT. The fields of a command word, and that a word is its fields. -/

namespace Sys2Proof

@[simp] theorem fieldOp_commandWord (op : BitVec 4) (a b : BitVec 24) (n : BitVec 8) :
    fieldOp (commandWord op a b n) = op := by
  apply BitVec.eq_of_getLsbD_eq
  intro i hi
  have h1 : a.getLsbD (60 + i - 32) = false := BitVec.getLsbD_of_ge _ _ (by omega)
  have h2 : b.getLsbD (60 + i - 8) = false := BitVec.getLsbD_of_ge _ _ (by omega)
  have h3 : n.getLsbD (60 + i) = false := BitVec.getLsbD_of_ge _ _ (by omega)
  simp [fieldOp, commandWord, hi, h1, h2, h3, show 60 + i < 64 by omega]

@[simp] theorem fieldRsv_commandWord (op : BitVec 4) (a b : BitVec 24) (n : BitVec 8) :
    fieldRsv (commandWord op a b n) = 0 := by
  apply BitVec.eq_of_getLsbD_eq
  intro i hi
  have h1 : a.getLsbD (56 + i - 32) = false := BitVec.getLsbD_of_ge _ _ (by omega)
  have h2 : b.getLsbD (56 + i - 8) = false := BitVec.getLsbD_of_ge _ _ (by omega)
  have h3 : n.getLsbD (56 + i) = false := BitVec.getLsbD_of_ge _ _ (by omega)
  simp [fieldRsv, commandWord, h1, h2, h3, show 56 + i < 60 by omega]

@[simp] theorem fieldA_commandWord (op : BitVec 4) (a b : BitVec 24) (n : BitVec 8) :
    fieldA (commandWord op a b n) = a := by
  apply BitVec.eq_of_getLsbD_eq
  intro i hi
  have h2 : b.getLsbD (32 + i - 8) = false := BitVec.getLsbD_of_ge _ _ (by omega)
  have h3 : n.getLsbD (32 + i) = false := BitVec.getLsbD_of_ge _ _ (by omega)
  simp [fieldA, commandWord, hi, h2, h3, show 32 + i < 60 by omega, show 32 + i < 64 by omega]

@[simp] theorem fieldB_commandWord (op : BitVec 4) (a b : BitVec 24) (n : BitVec 8) :
    fieldB (commandWord op a b n) = b := by
  apply BitVec.eq_of_getLsbD_eq
  intro i hi
  simp [fieldB, commandWord, hi, show 8 + i < 60 by omega, show 8 + i < 64 by omega,
    show 8 + i < 32 by omega]

@[simp] theorem fieldN_commandWord (op : BitVec 4) (a b : BitVec 24) (n : BitVec 8) :
    fieldN (commandWord op a b n) = n := by
  apply BitVec.eq_of_getLsbD_eq
  intro i hi
  simp [fieldN, commandWord, hi, show i < 60 by omega, show i < 64 by omega,
    show i < 32 by omega]

/-- A word with RSV = 0 is the word of its fields. -/
theorem commandWord_fields (w : CmdWord) (h : fieldRsv w = 0) :
    commandWord (fieldOp w) (fieldA w) (fieldB w) (fieldN w) = w := by
  apply BitVec.eq_of_getLsbD_eq
  intro i hi
  have hr : ∀ j, j < 4 → w.getLsbD (56 + j) = false := by
    intro j hj
    have := congrArg (fun b => b.getLsbD j) h
    simpa [fieldRsv, hj] using this
  simp only [commandWord, fieldOp, fieldA, fieldB, fieldN, BitVec.getLsbD_or, BitVec.getLsbD_shiftLeft,
    BitVec.getLsbD_setWidth, BitVec.getLsbD_extractLsb', hi, decide_true, Bool.true_and]
  by_cases h1 : i < 8
  · simp [h1, show i < 60 by omega, show i < 32 by omega]
  · by_cases h2 : i < 32
    · simp [h1, h2, show i < 60 by omega, show i - 8 < 24 by omega, show 8 + (i - 8) = i by omega]
      omega
    · by_cases h3 : i < 56
      · simp [h1, h2, show i < 60 by omega, show i - 32 < 24 by omega, show ¬ i - 8 < 24 by omega,
          show 32 + (i - 32) = i by omega]
        omega
      · by_cases h4 : i < 60
        · have := hr (i - 56) (by omega)
          rw [show 56 + (i - 56) = i by omega] at this
          simp [h1, h2, h4, this, show ¬ i - 32 < 24 by omega, show ¬ i - 8 < 24 by omega]
        · simp [h1, h2, h4, show i - 60 < 4 by omega, show ¬ i - 32 < 24 by omega,
            show ¬ i - 8 < 24 by omega, show 60 + (i - 60) = i by omega]
          omega

/-- The two bits of a space code, read back. -/
@[simp] theorem spaceCodeOf_bits (sp : SpaceCode) : spaceCodeOf (spaceCodeBits sp) = sp := by
  cases sp <;> rfl

/-- Every two bits are a space code's. -/
@[simp] theorem spaceCodeBits_of (b : BitVec 2) : spaceCodeBits (spaceCodeOf b) = b := by
  revert b; decide

end Sys2Proof
end

