-- ==== Sys2Proof/Laws/State.lean ====
section
/-! SUPPORT. One lemma per field per named update of the state, so that no later proof unfolds an update. -/

namespace Sys2Proof.Machine

/-! ### selectOn -/

@[simp] theorem State.selectOn_code (s : State) : (s.selectOn).code = s.code := rfl
@[simp] theorem State.selectOn_rData (s : State) : (s.selectOn).rData = s.rData := rfl
@[simp] theorem State.selectOn_rTarget (s : State) : (s.selectOn).rTarget = s.rTarget := rfl
@[simp] theorem State.selectOn_rSource (s : State) : (s.selectOn).rSource = s.rSource := rfl
@[simp] theorem State.selectOn_rDab (s : State) : (s.selectOn).rDab = s.rDab := rfl
@[simp] theorem State.selectOn_rSab (s : State) : (s.selectOn).rSab = s.rSab := rfl
@[simp] theorem State.selectOn_rWlen (s : State) : (s.selectOn).rWlen = s.rWlen := rfl
@[simp] theorem State.selectOn_rOff (s : State) : (s.selectOn).rOff = s.rOff := rfl
@[simp] theorem State.selectOn_myAddr (s : State) : (s.selectOn).myAddr = s.myAddr := rfl
@[simp] theorem State.selectOn_drv (s : State) : (s.selectOn).drv = s.drv := rfl
@[simp] theorem State.selectOn_selN (s : State) : (s.selectOn).selN = 0 := rfl
@[simp] theorem State.selectOn_payBuf (s : State) : (s.selectOn).payBuf = s.payBuf := rfl
@[simp] theorem State.selectOn_txBuf (s : State) : (s.selectOn).txBuf = s.txBuf := rfl
@[simp] theorem State.selectOn_rxBuf (s : State) : (s.selectOn).rxBuf = s.rxBuf := rfl
@[simp] theorem State.selectOn_hist (s : State) : (s.selectOn).hist = s.hist := rfl
@[simp] theorem State.selectOn_seq (s : State) : (s.selectOn).seq = s.seq := rfl
@[simp] theorem State.selectOn_cfg (s : State) : (s.selectOn).cfg = s.cfg := rfl
@[simp] theorem State.selectOn_hostWords (s : State) : (s.selectOn).hostWords = s.hostWords := rfl
@[simp] theorem State.selectOn_answers (s : State) : (s.selectOn).answers = s.answers := rfl
@[simp] theorem State.selectOn_draws (s : State) : (s.selectOn).draws = s.draws := rfl

/-! ### selectOff -/

@[simp] theorem State.selectOff_code (s : State) : (s.selectOff).code = s.code := rfl
@[simp] theorem State.selectOff_rData (s : State) : (s.selectOff).rData = s.rData := rfl
@[simp] theorem State.selectOff_rTarget (s : State) : (s.selectOff).rTarget = s.rTarget := rfl
@[simp] theorem State.selectOff_rSource (s : State) : (s.selectOff).rSource = s.rSource := rfl
@[simp] theorem State.selectOff_rDab (s : State) : (s.selectOff).rDab = s.rDab := rfl
@[simp] theorem State.selectOff_rSab (s : State) : (s.selectOff).rSab = s.rSab := rfl
@[simp] theorem State.selectOff_rWlen (s : State) : (s.selectOff).rWlen = s.rWlen := rfl
@[simp] theorem State.selectOff_rOff (s : State) : (s.selectOff).rOff = s.rOff := rfl
@[simp] theorem State.selectOff_myAddr (s : State) : (s.selectOff).myAddr = s.myAddr := rfl
@[simp] theorem State.selectOff_drv (s : State) : (s.selectOff).drv = s.drv := rfl
@[simp] theorem State.selectOff_selN (s : State) : (s.selectOff).selN = 1 := rfl
@[simp] theorem State.selectOff_payBuf (s : State) : (s.selectOff).payBuf = s.payBuf := rfl
@[simp] theorem State.selectOff_txBuf (s : State) : (s.selectOff).txBuf = s.txBuf := rfl
@[simp] theorem State.selectOff_rxBuf (s : State) : (s.selectOff).rxBuf = s.rxBuf := rfl
@[simp] theorem State.selectOff_hist (s : State) : (s.selectOff).hist = s.hist := rfl
@[simp] theorem State.selectOff_seq (s : State) : (s.selectOff).seq = s.seq := rfl
@[simp] theorem State.selectOff_cfg (s : State) : (s.selectOff).cfg = s.cfg := rfl
@[simp] theorem State.selectOff_hostWords (s : State) : (s.selectOff).hostWords = s.hostWords := rfl
@[simp] theorem State.selectOff_answers (s : State) : (s.selectOff).answers = s.answers := rfl
@[simp] theorem State.selectOff_draws (s : State) : (s.selectOff).draws = s.draws := rfl

/-! ### record -/

@[simp] theorem State.record_code (s : State) (e : Event) : (s.record e).code = s.code := rfl
@[simp] theorem State.record_rData (s : State) (e : Event) : (s.record e).rData = s.rData := rfl
@[simp] theorem State.record_rTarget (s : State) (e : Event) : (s.record e).rTarget = s.rTarget := rfl
@[simp] theorem State.record_rSource (s : State) (e : Event) : (s.record e).rSource = s.rSource := rfl
@[simp] theorem State.record_rDab (s : State) (e : Event) : (s.record e).rDab = s.rDab := rfl
@[simp] theorem State.record_rSab (s : State) (e : Event) : (s.record e).rSab = s.rSab := rfl
@[simp] theorem State.record_rWlen (s : State) (e : Event) : (s.record e).rWlen = s.rWlen := rfl
@[simp] theorem State.record_rOff (s : State) (e : Event) : (s.record e).rOff = s.rOff := rfl
@[simp] theorem State.record_myAddr (s : State) (e : Event) : (s.record e).myAddr = s.myAddr := rfl
@[simp] theorem State.record_drv (s : State) (e : Event) : (s.record e).drv = s.drv := rfl
@[simp] theorem State.record_selN (s : State) (e : Event) : (s.record e).selN = s.selN := rfl
@[simp] theorem State.record_payBuf (s : State) (e : Event) : (s.record e).payBuf = s.payBuf := rfl
@[simp] theorem State.record_txBuf (s : State) (e : Event) : (s.record e).txBuf = s.txBuf := rfl
@[simp] theorem State.record_rxBuf (s : State) (e : Event) : (s.record e).rxBuf = s.rxBuf := rfl
@[simp] theorem State.record_hist (s : State) (e : Event) : (s.record e).hist = s.hist ++ [e] := rfl
@[simp] theorem State.record_seq (s : State) (e : Event) : (s.record e).seq = s.seq := rfl
@[simp] theorem State.record_cfg (s : State) (e : Event) : (s.record e).cfg = s.cfg := rfl
@[simp] theorem State.record_hostWords (s : State) (e : Event) : (s.record e).hostWords = s.hostWords := rfl
@[simp] theorem State.record_answers (s : State) (e : Event) : (s.record e).answers = s.answers := rfl
@[simp] theorem State.record_draws (s : State) (e : Event) : (s.record e).draws = s.draws := rfl

/-! ### tookAnswers -/

@[simp] theorem State.tookAnswers_code (s : State) (k : Nat) : (s.tookAnswers k).code = s.code := rfl
@[simp] theorem State.tookAnswers_rData (s : State) (k : Nat) : (s.tookAnswers k).rData = s.rData := rfl
@[simp] theorem State.tookAnswers_rTarget (s : State) (k : Nat) : (s.tookAnswers k).rTarget = s.rTarget := rfl
@[simp] theorem State.tookAnswers_rSource (s : State) (k : Nat) : (s.tookAnswers k).rSource = s.rSource := rfl
@[simp] theorem State.tookAnswers_rDab (s : State) (k : Nat) : (s.tookAnswers k).rDab = s.rDab := rfl
@[simp] theorem State.tookAnswers_rSab (s : State) (k : Nat) : (s.tookAnswers k).rSab = s.rSab := rfl
@[simp] theorem State.tookAnswers_rWlen (s : State) (k : Nat) : (s.tookAnswers k).rWlen = s.rWlen := rfl
@[simp] theorem State.tookAnswers_rOff (s : State) (k : Nat) : (s.tookAnswers k).rOff = s.rOff := rfl
@[simp] theorem State.tookAnswers_myAddr (s : State) (k : Nat) : (s.tookAnswers k).myAddr = s.myAddr := rfl
@[simp] theorem State.tookAnswers_drv (s : State) (k : Nat) : (s.tookAnswers k).drv = s.drv := rfl
@[simp] theorem State.tookAnswers_selN (s : State) (k : Nat) : (s.tookAnswers k).selN = s.selN := rfl
@[simp] theorem State.tookAnswers_payBuf (s : State) (k : Nat) : (s.tookAnswers k).payBuf = s.payBuf := rfl
@[simp] theorem State.tookAnswers_txBuf (s : State) (k : Nat) : (s.tookAnswers k).txBuf = s.txBuf := rfl
@[simp] theorem State.tookAnswers_rxBuf (s : State) (k : Nat) : (s.tookAnswers k).rxBuf = s.rxBuf := rfl
@[simp] theorem State.tookAnswers_hist (s : State) (k : Nat) : (s.tookAnswers k).hist = s.hist := rfl
@[simp] theorem State.tookAnswers_seq (s : State) (k : Nat) : (s.tookAnswers k).seq = s.seq := rfl
@[simp] theorem State.tookAnswers_cfg (s : State) (k : Nat) : (s.tookAnswers k).cfg = s.cfg := rfl
@[simp] theorem State.tookAnswers_hostWords (s : State) (k : Nat) : (s.tookAnswers k).hostWords = s.hostWords := rfl
@[simp] theorem State.tookAnswers_answers (s : State) (k : Nat) : (s.tookAnswers k).answers = s.answers.drop k := rfl
@[simp] theorem State.tookAnswers_draws (s : State) (k : Nat) : (s.tookAnswers k).draws = s.draws + k := rfl

/-! ### xWrite -/

@[simp] theorem State.xWrite_code (s : State) (bs : List Byte) : (s.xWrite bs).code = s.code := by simp [State.xWrite]
@[simp] theorem State.xWrite_rData (s : State) (bs : List Byte) : (s.xWrite bs).rData = s.rData := by simp [State.xWrite]
@[simp] theorem State.xWrite_rTarget (s : State) (bs : List Byte) : (s.xWrite bs).rTarget = s.rTarget := by simp [State.xWrite]
@[simp] theorem State.xWrite_rSource (s : State) (bs : List Byte) : (s.xWrite bs).rSource = s.rSource := by simp [State.xWrite]
@[simp] theorem State.xWrite_rDab (s : State) (bs : List Byte) : (s.xWrite bs).rDab = s.rDab := by simp [State.xWrite]
@[simp] theorem State.xWrite_rSab (s : State) (bs : List Byte) : (s.xWrite bs).rSab = s.rSab := by simp [State.xWrite]
@[simp] theorem State.xWrite_rWlen (s : State) (bs : List Byte) : (s.xWrite bs).rWlen = s.rWlen := by simp [State.xWrite]
@[simp] theorem State.xWrite_rOff (s : State) (bs : List Byte) : (s.xWrite bs).rOff = s.rOff := by simp [State.xWrite]
@[simp] theorem State.xWrite_myAddr (s : State) (bs : List Byte) : (s.xWrite bs).myAddr = s.myAddr := by simp [State.xWrite]
@[simp] theorem State.xWrite_drv (s : State) (bs : List Byte) : (s.xWrite bs).drv = s.drv := by simp [State.xWrite]
@[simp] theorem State.xWrite_selN (s : State) (bs : List Byte) : (s.xWrite bs).selN = 1 := by simp [State.xWrite]
@[simp] theorem State.xWrite_payBuf (s : State) (bs : List Byte) : (s.xWrite bs).payBuf = s.payBuf := by simp [State.xWrite]
@[simp] theorem State.xWrite_txBuf (s : State) (bs : List Byte) : (s.xWrite bs).txBuf = s.txBuf := by simp [State.xWrite]
@[simp] theorem State.xWrite_rxBuf (s : State) (bs : List Byte) : (s.xWrite bs).rxBuf = s.rxBuf := by simp [State.xWrite]
@[simp] theorem State.xWrite_hist (s : State) (bs : List Byte) : (s.xWrite bs).hist = s.hist ++ [.write bs] := by simp [State.xWrite]
@[simp] theorem State.xWrite_seq (s : State) (bs : List Byte) : (s.xWrite bs).seq = s.seq := by simp [State.xWrite]
@[simp] theorem State.xWrite_cfg (s : State) (bs : List Byte) : (s.xWrite bs).cfg = s.cfg := by simp [State.xWrite]
@[simp] theorem State.xWrite_hostWords (s : State) (bs : List Byte) : (s.xWrite bs).hostWords = s.hostWords := by simp [State.xWrite]
@[simp] theorem State.xWrite_answers (s : State) (bs : List Byte) : (s.xWrite bs).answers = s.answers := by simp [State.xWrite]
@[simp] theorem State.xWrite_draws (s : State) (bs : List Byte) : (s.xWrite bs).draws = s.draws := by simp [State.xWrite]

/-! ### strobe -/

@[simp] theorem State.strobe_code (s : State) (b : Byte) : (s.strobe b).code = s.code := by simp [State.strobe]
@[simp] theorem State.strobe_rData (s : State) (b : Byte) : (s.strobe b).rData = s.rData := by simp [State.strobe]
@[simp] theorem State.strobe_rTarget (s : State) (b : Byte) : (s.strobe b).rTarget = s.rTarget := by simp [State.strobe]
@[simp] theorem State.strobe_rSource (s : State) (b : Byte) : (s.strobe b).rSource = s.rSource := by simp [State.strobe]
@[simp] theorem State.strobe_rDab (s : State) (b : Byte) : (s.strobe b).rDab = s.rDab := by simp [State.strobe]
@[simp] theorem State.strobe_rSab (s : State) (b : Byte) : (s.strobe b).rSab = s.rSab := by simp [State.strobe]
@[simp] theorem State.strobe_rWlen (s : State) (b : Byte) : (s.strobe b).rWlen = s.rWlen := by simp [State.strobe]
@[simp] theorem State.strobe_rOff (s : State) (b : Byte) : (s.strobe b).rOff = s.rOff := by simp [State.strobe]
@[simp] theorem State.strobe_myAddr (s : State) (b : Byte) : (s.strobe b).myAddr = s.myAddr := by simp [State.strobe]
@[simp] theorem State.strobe_drv (s : State) (b : Byte) : (s.strobe b).drv = s.drv := by simp [State.strobe]
@[simp] theorem State.strobe_selN (s : State) (b : Byte) : (s.strobe b).selN = 1 := by simp [State.strobe]
@[simp] theorem State.strobe_payBuf (s : State) (b : Byte) : (s.strobe b).payBuf = s.payBuf := by simp [State.strobe]
@[simp] theorem State.strobe_txBuf (s : State) (b : Byte) : (s.strobe b).txBuf = s.txBuf := by simp [State.strobe]
@[simp] theorem State.strobe_rxBuf (s : State) (b : Byte) : (s.strobe b).rxBuf = s.rxBuf := by simp [State.strobe]
@[simp] theorem State.strobe_hist (s : State) (b : Byte) : (s.strobe b).hist = s.hist ++ [.write [b]] := by simp [State.strobe]
@[simp] theorem State.strobe_seq (s : State) (b : Byte) : (s.strobe b).seq = s.seq := by simp [State.strobe]
@[simp] theorem State.strobe_cfg (s : State) (b : Byte) : (s.strobe b).cfg = s.cfg := by simp [State.strobe]
@[simp] theorem State.strobe_hostWords (s : State) (b : Byte) : (s.strobe b).hostWords = s.hostWords := by simp [State.strobe]
@[simp] theorem State.strobe_answers (s : State) (b : Byte) : (s.strobe b).answers = s.answers := by simp [State.strobe]
@[simp] theorem State.strobe_draws (s : State) (b : Byte) : (s.strobe b).draws = s.draws := by simp [State.strobe]

/-! ### xReadReg -/

@[simp] theorem State.xReadReg_code (s : State) (a : Byte) : (s.xReadReg a).code = s.code := by simp [State.xReadReg]
@[simp] theorem State.xReadReg_rData (s : State) (a : Byte) : (s.xReadReg a).rData = s.rData := by simp [State.xReadReg]
@[simp] theorem State.xReadReg_rTarget (s : State) (a : Byte) : (s.xReadReg a).rTarget = s.rTarget := by simp [State.xReadReg]
@[simp] theorem State.xReadReg_rSource (s : State) (a : Byte) : (s.xReadReg a).rSource = s.rSource := by simp [State.xReadReg]
@[simp] theorem State.xReadReg_rDab (s : State) (a : Byte) : (s.xReadReg a).rDab = s.rDab := by simp [State.xReadReg]
@[simp] theorem State.xReadReg_rSab (s : State) (a : Byte) : (s.xReadReg a).rSab = s.rSab := by simp [State.xReadReg]
@[simp] theorem State.xReadReg_rWlen (s : State) (a : Byte) : (s.xReadReg a).rWlen = s.rWlen := by simp [State.xReadReg]
@[simp] theorem State.xReadReg_rOff (s : State) (a : Byte) : (s.xReadReg a).rOff = s.rOff := by simp [State.xReadReg]
@[simp] theorem State.xReadReg_myAddr (s : State) (a : Byte) : (s.xReadReg a).myAddr = s.myAddr := by simp [State.xReadReg]
@[simp] theorem State.xReadReg_drv (s : State) (a : Byte) : (s.xReadReg a).drv = s.drv := by simp [State.xReadReg]
@[simp] theorem State.xReadReg_selN (s : State) (a : Byte) : (s.xReadReg a).selN = 1 := by simp [State.xReadReg]
@[simp] theorem State.xReadReg_payBuf (s : State) (a : Byte) : (s.xReadReg a).payBuf = s.payBuf := by simp [State.xReadReg]
@[simp] theorem State.xReadReg_txBuf (s : State) (a : Byte) : (s.xReadReg a).txBuf = s.txBuf := by simp [State.xReadReg]
@[simp] theorem State.xReadReg_rxBuf (s : State) (a : Byte) : (s.xReadReg a).rxBuf = s.rxBuf := by simp [State.xReadReg]
@[simp] theorem State.xReadReg_hist (s : State) (a : Byte) : (s.xReadReg a).hist = s.hist ++ [.readReg a s.answer] := by simp [State.xReadReg]
@[simp] theorem State.xReadReg_seq (s : State) (a : Byte) : (s.xReadReg a).seq = s.seq := by simp [State.xReadReg]
@[simp] theorem State.xReadReg_cfg (s : State) (a : Byte) : (s.xReadReg a).cfg = s.cfg := by simp [State.xReadReg]
@[simp] theorem State.xReadReg_hostWords (s : State) (a : Byte) : (s.xReadReg a).hostWords = s.hostWords := by simp [State.xReadReg]
@[simp] theorem State.xReadReg_answers (s : State) (a : Byte) : (s.xReadReg a).answers = s.answers.drop 1 := by simp [State.xReadReg]
@[simp] theorem State.xReadReg_draws (s : State) (a : Byte) : (s.xReadReg a).draws = s.draws + 1 := by simp [State.xReadReg]

/-! ### xReadBurst -/

@[simp] theorem State.xReadBurst_code (s : State) (k : Nat) : (s.xReadBurst k).code = s.code := by simp [State.xReadBurst]
@[simp] theorem State.xReadBurst_rData (s : State) (k : Nat) : (s.xReadBurst k).rData = s.rData := by simp [State.xReadBurst]
@[simp] theorem State.xReadBurst_rTarget (s : State) (k : Nat) : (s.xReadBurst k).rTarget = s.rTarget := by simp [State.xReadBurst]
@[simp] theorem State.xReadBurst_rSource (s : State) (k : Nat) : (s.xReadBurst k).rSource = s.rSource := by simp [State.xReadBurst]
@[simp] theorem State.xReadBurst_rDab (s : State) (k : Nat) : (s.xReadBurst k).rDab = s.rDab := by simp [State.xReadBurst]
@[simp] theorem State.xReadBurst_rSab (s : State) (k : Nat) : (s.xReadBurst k).rSab = s.rSab := by simp [State.xReadBurst]
@[simp] theorem State.xReadBurst_rWlen (s : State) (k : Nat) : (s.xReadBurst k).rWlen = s.rWlen := by simp [State.xReadBurst]
@[simp] theorem State.xReadBurst_rOff (s : State) (k : Nat) : (s.xReadBurst k).rOff = s.rOff := by simp [State.xReadBurst]
@[simp] theorem State.xReadBurst_myAddr (s : State) (k : Nat) : (s.xReadBurst k).myAddr = s.myAddr := by simp [State.xReadBurst]
@[simp] theorem State.xReadBurst_drv (s : State) (k : Nat) : (s.xReadBurst k).drv = s.drv := by simp [State.xReadBurst]
@[simp] theorem State.xReadBurst_selN (s : State) (k : Nat) : (s.xReadBurst k).selN = 1 := by simp [State.xReadBurst]
@[simp] theorem State.xReadBurst_payBuf (s : State) (k : Nat) : (s.xReadBurst k).payBuf = s.payBuf := by simp [State.xReadBurst]
@[simp] theorem State.xReadBurst_txBuf (s : State) (k : Nat) : (s.xReadBurst k).txBuf = s.txBuf := by simp [State.xReadBurst]
@[simp] theorem State.xReadBurst_rxBuf (s : State) (k : Nat) : (s.xReadBurst k).rxBuf = s.rxBuf := by simp [State.xReadBurst]
@[simp] theorem State.xReadBurst_hist (s : State) (k : Nat) : (s.xReadBurst k).hist = s.hist ++ [.readBurst k (s.answerBytes k)] := by simp [State.xReadBurst]
@[simp] theorem State.xReadBurst_seq (s : State) (k : Nat) : (s.xReadBurst k).seq = s.seq := by simp [State.xReadBurst]
@[simp] theorem State.xReadBurst_cfg (s : State) (k : Nat) : (s.xReadBurst k).cfg = s.cfg := by simp [State.xReadBurst]
@[simp] theorem State.xReadBurst_hostWords (s : State) (k : Nat) : (s.xReadBurst k).hostWords = s.hostWords := by simp [State.xReadBurst]
@[simp] theorem State.xReadBurst_answers (s : State) (k : Nat) : (s.xReadBurst k).answers = s.answers.drop k := by simp [State.xReadBurst]
@[simp] theorem State.xReadBurst_draws (s : State) (k : Nat) : (s.xReadBurst k).draws = s.draws + k := by simp [State.xReadBurst]

/-! ### delay -/

@[simp] theorem State.delay_code (s : State) (us : Nat) : (s.delay us).code = s.code := by simp [State.delay]
@[simp] theorem State.delay_rData (s : State) (us : Nat) : (s.delay us).rData = s.rData := by simp [State.delay]
@[simp] theorem State.delay_rTarget (s : State) (us : Nat) : (s.delay us).rTarget = s.rTarget := by simp [State.delay]
@[simp] theorem State.delay_rSource (s : State) (us : Nat) : (s.delay us).rSource = s.rSource := by simp [State.delay]
@[simp] theorem State.delay_rDab (s : State) (us : Nat) : (s.delay us).rDab = s.rDab := by simp [State.delay]
@[simp] theorem State.delay_rSab (s : State) (us : Nat) : (s.delay us).rSab = s.rSab := by simp [State.delay]
@[simp] theorem State.delay_rWlen (s : State) (us : Nat) : (s.delay us).rWlen = s.rWlen := by simp [State.delay]
@[simp] theorem State.delay_rOff (s : State) (us : Nat) : (s.delay us).rOff = s.rOff := by simp [State.delay]
@[simp] theorem State.delay_myAddr (s : State) (us : Nat) : (s.delay us).myAddr = s.myAddr := by simp [State.delay]
@[simp] theorem State.delay_drv (s : State) (us : Nat) : (s.delay us).drv = s.drv := by simp [State.delay]
@[simp] theorem State.delay_selN (s : State) (us : Nat) : (s.delay us).selN = s.selN := by simp [State.delay]
@[simp] theorem State.delay_payBuf (s : State) (us : Nat) : (s.delay us).payBuf = s.payBuf := by simp [State.delay]
@[simp] theorem State.delay_txBuf (s : State) (us : Nat) : (s.delay us).txBuf = s.txBuf := by simp [State.delay]
@[simp] theorem State.delay_rxBuf (s : State) (us : Nat) : (s.delay us).rxBuf = s.rxBuf := by simp [State.delay]
@[simp] theorem State.delay_hist (s : State) (us : Nat) : (s.delay us).hist = s.hist ++ [.delay us] := by simp [State.delay]
@[simp] theorem State.delay_seq (s : State) (us : Nat) : (s.delay us).seq = s.seq := by simp [State.delay]
@[simp] theorem State.delay_cfg (s : State) (us : Nat) : (s.delay us).cfg = s.cfg := by simp [State.delay]
@[simp] theorem State.delay_hostWords (s : State) (us : Nat) : (s.delay us).hostWords = s.hostWords := by simp [State.delay]
@[simp] theorem State.delay_answers (s : State) (us : Nat) : (s.delay us).answers = s.answers := by simp [State.delay]
@[simp] theorem State.delay_draws (s : State) (us : Nat) : (s.delay us).draws = s.draws := by simp [State.delay]

/-! ### endWith -/

@[simp] theorem State.endWith_code (s : State) (e : Status) : (s.endWith e).code = e.code := rfl
@[simp] theorem State.endWith_rData (s : State) (e : Status) : (s.endWith e).rData = s.rData := rfl
@[simp] theorem State.endWith_rTarget (s : State) (e : Status) : (s.endWith e).rTarget = s.rTarget := rfl
@[simp] theorem State.endWith_rSource (s : State) (e : Status) : (s.endWith e).rSource = s.rSource := rfl
@[simp] theorem State.endWith_rDab (s : State) (e : Status) : (s.endWith e).rDab = s.rDab := rfl
@[simp] theorem State.endWith_rSab (s : State) (e : Status) : (s.endWith e).rSab = s.rSab := rfl
@[simp] theorem State.endWith_rWlen (s : State) (e : Status) : (s.endWith e).rWlen = s.rWlen := rfl
@[simp] theorem State.endWith_rOff (s : State) (e : Status) : (s.endWith e).rOff = s.rOff := rfl
@[simp] theorem State.endWith_myAddr (s : State) (e : Status) : (s.endWith e).myAddr = s.myAddr := rfl
@[simp] theorem State.endWith_drv (s : State) (e : Status) : (s.endWith e).drv = s.drv := rfl
@[simp] theorem State.endWith_selN (s : State) (e : Status) : (s.endWith e).selN = s.selN := rfl
@[simp] theorem State.endWith_payBuf (s : State) (e : Status) : (s.endWith e).payBuf = s.payBuf := rfl
@[simp] theorem State.endWith_txBuf (s : State) (e : Status) : (s.endWith e).txBuf = s.txBuf := rfl
@[simp] theorem State.endWith_rxBuf (s : State) (e : Status) : (s.endWith e).rxBuf = s.rxBuf := rfl
@[simp] theorem State.endWith_hist (s : State) (e : Status) : (s.endWith e).hist = s.hist := rfl
@[simp] theorem State.endWith_seq (s : State) (e : Status) : (s.endWith e).seq = .idle := rfl
@[simp] theorem State.endWith_cfg (s : State) (e : Status) : (s.endWith e).cfg = s.cfg := rfl
@[simp] theorem State.endWith_hostWords (s : State) (e : Status) : (s.endWith e).hostWords = s.hostWords := rfl
@[simp] theorem State.endWith_answers (s : State) (e : Status) : (s.endWith e).answers = s.answers := rfl
@[simp] theorem State.endWith_draws (s : State) (e : Status) : (s.endWith e).draws = s.draws := rfl

/-! ### finish -/

@[simp] theorem State.finish_code (s : State) : (s.finish).code = 0 := by simp [State.finish, Status.code]
@[simp] theorem State.finish_rData (s : State) : (s.finish).rData = s.rData := by simp [State.finish]
@[simp] theorem State.finish_rTarget (s : State) : (s.finish).rTarget = s.rTarget := by simp [State.finish]
@[simp] theorem State.finish_rSource (s : State) : (s.finish).rSource = s.rSource := by simp [State.finish]
@[simp] theorem State.finish_rDab (s : State) : (s.finish).rDab = s.rDab := by simp [State.finish]
@[simp] theorem State.finish_rSab (s : State) : (s.finish).rSab = s.rSab := by simp [State.finish]
@[simp] theorem State.finish_rWlen (s : State) : (s.finish).rWlen = s.rWlen := by simp [State.finish]
@[simp] theorem State.finish_rOff (s : State) : (s.finish).rOff = s.rOff := by simp [State.finish]
@[simp] theorem State.finish_myAddr (s : State) : (s.finish).myAddr = s.myAddr := by simp [State.finish]
@[simp] theorem State.finish_drv (s : State) : (s.finish).drv = s.drv := by simp [State.finish]
@[simp] theorem State.finish_selN (s : State) : (s.finish).selN = s.selN := by simp [State.finish]
@[simp] theorem State.finish_payBuf (s : State) : (s.finish).payBuf = s.payBuf := by simp [State.finish]
@[simp] theorem State.finish_txBuf (s : State) : (s.finish).txBuf = s.txBuf := by simp [State.finish]
@[simp] theorem State.finish_rxBuf (s : State) : (s.finish).rxBuf = s.rxBuf := by simp [State.finish]
@[simp] theorem State.finish_hist (s : State) : (s.finish).hist = s.hist := by simp [State.finish]
@[simp] theorem State.finish_seq (s : State) : (s.finish).seq = .idle := by simp [State.finish]
@[simp] theorem State.finish_cfg (s : State) : (s.finish).cfg = s.cfg := by simp [State.finish]
@[simp] theorem State.finish_hostWords (s : State) : (s.finish).hostWords = s.hostWords := by simp [State.finish]
@[simp] theorem State.finish_answers (s : State) : (s.finish).answers = s.answers := by simp [State.finish]
@[simp] theorem State.finish_draws (s : State) : (s.finish).draws = s.draws := by simp [State.finish]

/-! ### raise -/

@[simp] theorem State.raise_code (s : State) (e : Status) : (s.raise e).code = e.code := by simp [State.raise]
@[simp] theorem State.raise_rData (s : State) (e : Status) : (s.raise e).rData = s.rData := by simp [State.raise]
@[simp] theorem State.raise_rTarget (s : State) (e : Status) : (s.raise e).rTarget = s.rTarget := by simp [State.raise]
@[simp] theorem State.raise_rSource (s : State) (e : Status) : (s.raise e).rSource = s.rSource := by simp [State.raise]
@[simp] theorem State.raise_rDab (s : State) (e : Status) : (s.raise e).rDab = s.rDab := by simp [State.raise]
@[simp] theorem State.raise_rSab (s : State) (e : Status) : (s.raise e).rSab = s.rSab := by simp [State.raise]
@[simp] theorem State.raise_rWlen (s : State) (e : Status) : (s.raise e).rWlen = s.rWlen := by simp [State.raise]
@[simp] theorem State.raise_rOff (s : State) (e : Status) : (s.raise e).rOff = s.rOff := by simp [State.raise]
@[simp] theorem State.raise_myAddr (s : State) (e : Status) : (s.raise e).myAddr = s.myAddr := by simp [State.raise]
@[simp] theorem State.raise_drv (s : State) (e : Status) : (s.raise e).drv = s.drv := by simp [State.raise]
@[simp] theorem State.raise_selN (s : State) (e : Status) : (s.raise e).selN = s.selN := by simp [State.raise]
@[simp] theorem State.raise_payBuf (s : State) (e : Status) : (s.raise e).payBuf = s.payBuf := by simp [State.raise]
@[simp] theorem State.raise_txBuf (s : State) (e : Status) : (s.raise e).txBuf = s.txBuf := by simp [State.raise]
@[simp] theorem State.raise_rxBuf (s : State) (e : Status) : (s.raise e).rxBuf = s.rxBuf := by simp [State.raise]
@[simp] theorem State.raise_hist (s : State) (e : Status) : (s.raise e).hist = s.hist := by simp [State.raise]
@[simp] theorem State.raise_seq (s : State) (e : Status) : (s.raise e).seq = .idle := by simp [State.raise]
@[simp] theorem State.raise_cfg (s : State) (e : Status) : (s.raise e).cfg = s.cfg := by simp [State.raise]
@[simp] theorem State.raise_hostWords (s : State) (e : Status) : (s.raise e).hostWords = s.hostWords := by simp [State.raise]
@[simp] theorem State.raise_answers (s : State) (e : Status) : (s.raise e).answers = s.answers := by simp [State.raise]
@[simp] theorem State.raise_draws (s : State) (e : Status) : (s.raise e).draws = s.draws := by simp [State.raise]

/-! ### raiseChipNotReady -/

@[simp] theorem State.raiseChipNotReady_code (s : State) : (s.raiseChipNotReady).code = 6 := by simp [State.raiseChipNotReady, Status.code]
@[simp] theorem State.raiseChipNotReady_rData (s : State) : (s.raiseChipNotReady).rData = s.rData := by simp [State.raiseChipNotReady]
@[simp] theorem State.raiseChipNotReady_rTarget (s : State) : (s.raiseChipNotReady).rTarget = s.rTarget := by simp [State.raiseChipNotReady]
@[simp] theorem State.raiseChipNotReady_rSource (s : State) : (s.raiseChipNotReady).rSource = s.rSource := by simp [State.raiseChipNotReady]
@[simp] theorem State.raiseChipNotReady_rDab (s : State) : (s.raiseChipNotReady).rDab = s.rDab := by simp [State.raiseChipNotReady]
@[simp] theorem State.raiseChipNotReady_rSab (s : State) : (s.raiseChipNotReady).rSab = s.rSab := by simp [State.raiseChipNotReady]
@[simp] theorem State.raiseChipNotReady_rWlen (s : State) : (s.raiseChipNotReady).rWlen = s.rWlen := by simp [State.raiseChipNotReady]
@[simp] theorem State.raiseChipNotReady_rOff (s : State) : (s.raiseChipNotReady).rOff = s.rOff := by simp [State.raiseChipNotReady]
@[simp] theorem State.raiseChipNotReady_myAddr (s : State) : (s.raiseChipNotReady).myAddr = s.myAddr := by simp [State.raiseChipNotReady]
@[simp] theorem State.raiseChipNotReady_drv (s : State) : (s.raiseChipNotReady).drv = .uninit := by simp [State.raiseChipNotReady]
@[simp] theorem State.raiseChipNotReady_selN (s : State) : (s.raiseChipNotReady).selN = s.selN := by simp [State.raiseChipNotReady]
@[simp] theorem State.raiseChipNotReady_payBuf (s : State) : (s.raiseChipNotReady).payBuf = s.payBuf := by simp [State.raiseChipNotReady]
@[simp] theorem State.raiseChipNotReady_txBuf (s : State) : (s.raiseChipNotReady).txBuf = s.txBuf := by simp [State.raiseChipNotReady]
@[simp] theorem State.raiseChipNotReady_rxBuf (s : State) : (s.raiseChipNotReady).rxBuf = s.rxBuf := by simp [State.raiseChipNotReady]
@[simp] theorem State.raiseChipNotReady_hist (s : State) : (s.raiseChipNotReady).hist = s.hist := by simp [State.raiseChipNotReady]
@[simp] theorem State.raiseChipNotReady_seq (s : State) : (s.raiseChipNotReady).seq = .idle := by simp [State.raiseChipNotReady]
@[simp] theorem State.raiseChipNotReady_cfg (s : State) : (s.raiseChipNotReady).cfg = s.cfg := by simp [State.raiseChipNotReady]
@[simp] theorem State.raiseChipNotReady_hostWords (s : State) : (s.raiseChipNotReady).hostWords = s.hostWords := by simp [State.raiseChipNotReady]
@[simp] theorem State.raiseChipNotReady_answers (s : State) : (s.raiseChipNotReady).answers = s.answers := by simp [State.raiseChipNotReady]
@[simp] theorem State.raiseChipNotReady_draws (s : State) : (s.raiseChipNotReady).draws = s.draws := by simp [State.raiseChipNotReady]

/-! ### forceIdle -/

@[simp] theorem State.forceIdle_code (s : State) : (s.forceIdle).code = s.code := by simp [State.forceIdle]
@[simp] theorem State.forceIdle_rData (s : State) : (s.forceIdle).rData = s.rData := by simp [State.forceIdle]
@[simp] theorem State.forceIdle_rTarget (s : State) : (s.forceIdle).rTarget = s.rTarget := by simp [State.forceIdle]
@[simp] theorem State.forceIdle_rSource (s : State) : (s.forceIdle).rSource = s.rSource := by simp [State.forceIdle]
@[simp] theorem State.forceIdle_rDab (s : State) : (s.forceIdle).rDab = s.rDab := by simp [State.forceIdle]
@[simp] theorem State.forceIdle_rSab (s : State) : (s.forceIdle).rSab = s.rSab := by simp [State.forceIdle]
@[simp] theorem State.forceIdle_rWlen (s : State) : (s.forceIdle).rWlen = s.rWlen := by simp [State.forceIdle]
@[simp] theorem State.forceIdle_rOff (s : State) : (s.forceIdle).rOff = s.rOff := by simp [State.forceIdle]
@[simp] theorem State.forceIdle_myAddr (s : State) : (s.forceIdle).myAddr = s.myAddr := by simp [State.forceIdle]
@[simp] theorem State.forceIdle_drv (s : State) : (s.forceIdle).drv = .idle := by simp [State.forceIdle]
@[simp] theorem State.forceIdle_selN (s : State) : (s.forceIdle).selN = 1 := by simp [State.forceIdle]
@[simp] theorem State.forceIdle_payBuf (s : State) : (s.forceIdle).payBuf = s.payBuf := by simp [State.forceIdle]
@[simp] theorem State.forceIdle_txBuf (s : State) : (s.forceIdle).txBuf = s.txBuf := by simp [State.forceIdle]
@[simp] theorem State.forceIdle_rxBuf (s : State) : (s.forceIdle).rxBuf = s.rxBuf := by simp [State.forceIdle]
@[simp] theorem State.forceIdle_hist (s : State) : (s.forceIdle).hist = s.hist ++ [.write [s.cfg.sSidle]] := by simp [State.forceIdle]
@[simp] theorem State.forceIdle_seq (s : State) : (s.forceIdle).seq = s.seq := by simp [State.forceIdle]
@[simp] theorem State.forceIdle_cfg (s : State) : (s.forceIdle).cfg = s.cfg := by simp [State.forceIdle]
@[simp] theorem State.forceIdle_hostWords (s : State) : (s.forceIdle).hostWords = s.hostWords := by simp [State.forceIdle]
@[simp] theorem State.forceIdle_answers (s : State) : (s.forceIdle).answers = s.answers := by simp [State.forceIdle]
@[simp] theorem State.forceIdle_draws (s : State) : (s.forceIdle).draws = s.draws := by simp [State.forceIdle]

/-! ### enterTx -/

@[simp] theorem State.enterTx_code (s : State) : (s.enterTx).code = s.code := by simp [State.enterTx]
@[simp] theorem State.enterTx_rData (s : State) : (s.enterTx).rData = s.rData := by simp [State.enterTx]
@[simp] theorem State.enterTx_rTarget (s : State) : (s.enterTx).rTarget = s.rTarget := by simp [State.enterTx]
@[simp] theorem State.enterTx_rSource (s : State) : (s.enterTx).rSource = s.rSource := by simp [State.enterTx]
@[simp] theorem State.enterTx_rDab (s : State) : (s.enterTx).rDab = s.rDab := by simp [State.enterTx]
@[simp] theorem State.enterTx_rSab (s : State) : (s.enterTx).rSab = s.rSab := by simp [State.enterTx]
@[simp] theorem State.enterTx_rWlen (s : State) : (s.enterTx).rWlen = s.rWlen := by simp [State.enterTx]
@[simp] theorem State.enterTx_rOff (s : State) : (s.enterTx).rOff = s.rOff := by simp [State.enterTx]
@[simp] theorem State.enterTx_myAddr (s : State) : (s.enterTx).myAddr = s.myAddr := by simp [State.enterTx]
@[simp] theorem State.enterTx_drv (s : State) : (s.enterTx).drv = .tx := by simp [State.enterTx]
@[simp] theorem State.enterTx_selN (s : State) : (s.enterTx).selN = 1 := by simp [State.enterTx]
@[simp] theorem State.enterTx_payBuf (s : State) : (s.enterTx).payBuf = s.payBuf := by simp [State.enterTx]
@[simp] theorem State.enterTx_txBuf (s : State) : (s.enterTx).txBuf = s.txBuf := by simp [State.enterTx]
@[simp] theorem State.enterTx_rxBuf (s : State) : (s.enterTx).rxBuf = s.rxBuf := by simp [State.enterTx]
@[simp] theorem State.enterTx_hist (s : State) : (s.enterTx).hist = s.hist ++ [.write [s.cfg.sStx]] := by simp [State.enterTx]
@[simp] theorem State.enterTx_seq (s : State) : (s.enterTx).seq = s.seq := by simp [State.enterTx]
@[simp] theorem State.enterTx_cfg (s : State) : (s.enterTx).cfg = s.cfg := by simp [State.enterTx]
@[simp] theorem State.enterTx_hostWords (s : State) : (s.enterTx).hostWords = s.hostWords := by simp [State.enterTx]
@[simp] theorem State.enterTx_answers (s : State) : (s.enterTx).answers = s.answers := by simp [State.enterTx]
@[simp] theorem State.enterTx_draws (s : State) : (s.enterTx).draws = s.draws := by simp [State.enterTx]

/-! ### enterRx -/

@[simp] theorem State.enterRx_code (s : State) : (s.enterRx).code = s.code := by simp [State.enterRx]
@[simp] theorem State.enterRx_rData (s : State) : (s.enterRx).rData = s.rData := by simp [State.enterRx]
@[simp] theorem State.enterRx_rTarget (s : State) : (s.enterRx).rTarget = s.rTarget := by simp [State.enterRx]
@[simp] theorem State.enterRx_rSource (s : State) : (s.enterRx).rSource = s.rSource := by simp [State.enterRx]
@[simp] theorem State.enterRx_rDab (s : State) : (s.enterRx).rDab = s.rDab := by simp [State.enterRx]
@[simp] theorem State.enterRx_rSab (s : State) : (s.enterRx).rSab = s.rSab := by simp [State.enterRx]
@[simp] theorem State.enterRx_rWlen (s : State) : (s.enterRx).rWlen = s.rWlen := by simp [State.enterRx]
@[simp] theorem State.enterRx_rOff (s : State) : (s.enterRx).rOff = s.rOff := by simp [State.enterRx]
@[simp] theorem State.enterRx_myAddr (s : State) : (s.enterRx).myAddr = s.myAddr := by simp [State.enterRx]
@[simp] theorem State.enterRx_drv (s : State) : (s.enterRx).drv = .rx := by simp [State.enterRx]
@[simp] theorem State.enterRx_selN (s : State) : (s.enterRx).selN = 1 := by simp [State.enterRx]
@[simp] theorem State.enterRx_payBuf (s : State) : (s.enterRx).payBuf = s.payBuf := by simp [State.enterRx]
@[simp] theorem State.enterRx_txBuf (s : State) : (s.enterRx).txBuf = s.txBuf := by simp [State.enterRx]
@[simp] theorem State.enterRx_rxBuf (s : State) : (s.enterRx).rxBuf = s.rxBuf := by simp [State.enterRx]
@[simp] theorem State.enterRx_hist (s : State) : (s.enterRx).hist = s.hist ++ [.write [s.cfg.sSrx]] := by simp [State.enterRx]
@[simp] theorem State.enterRx_seq (s : State) : (s.enterRx).seq = s.seq := by simp [State.enterRx]
@[simp] theorem State.enterRx_cfg (s : State) : (s.enterRx).cfg = s.cfg := by simp [State.enterRx]
@[simp] theorem State.enterRx_hostWords (s : State) : (s.enterRx).hostWords = s.hostWords := by simp [State.enterRx]
@[simp] theorem State.enterRx_answers (s : State) : (s.enterRx).answers = s.answers := by simp [State.enterRx]
@[simp] theorem State.enterRx_draws (s : State) : (s.enterRx).draws = s.draws := by simp [State.enterRx]

/-! ### setParsed -/

@[simp] theorem State.setParsed_code (s : State) (p : Parsed) : (s.setParsed p).code = s.code := rfl
@[simp] theorem State.setParsed_rData (s : State) (p : Parsed) : (s.setParsed p).rData = s.rData := rfl
@[simp] theorem State.setParsed_rTarget (s : State) (p : Parsed) : (s.setParsed p).rTarget = p.target := rfl
@[simp] theorem State.setParsed_rSource (s : State) (p : Parsed) : (s.setParsed p).rSource = p.source := rfl
@[simp] theorem State.setParsed_rDab (s : State) (p : Parsed) : (s.setParsed p).rDab = p.dab := rfl
@[simp] theorem State.setParsed_rSab (s : State) (p : Parsed) : (s.setParsed p).rSab = p.sab := rfl
@[simp] theorem State.setParsed_rWlen (s : State) (p : Parsed) : (s.setParsed p).rWlen = BitVec.ofNat 7 p.wlen := rfl
@[simp] theorem State.setParsed_rOff (s : State) (p : Parsed) : (s.setParsed p).rOff = BitVec.ofNat 4 p.offset := rfl
@[simp] theorem State.setParsed_myAddr (s : State) (p : Parsed) : (s.setParsed p).myAddr = s.myAddr := rfl
@[simp] theorem State.setParsed_drv (s : State) (p : Parsed) : (s.setParsed p).drv = s.drv := rfl
@[simp] theorem State.setParsed_selN (s : State) (p : Parsed) : (s.setParsed p).selN = s.selN := rfl
@[simp] theorem State.setParsed_payBuf (s : State) (p : Parsed) : (s.setParsed p).payBuf = s.payBuf := rfl
@[simp] theorem State.setParsed_txBuf (s : State) (p : Parsed) : (s.setParsed p).txBuf = s.txBuf := rfl
@[simp] theorem State.setParsed_rxBuf (s : State) (p : Parsed) : (s.setParsed p).rxBuf = s.rxBuf := rfl
@[simp] theorem State.setParsed_hist (s : State) (p : Parsed) : (s.setParsed p).hist = s.hist := rfl
@[simp] theorem State.setParsed_seq (s : State) (p : Parsed) : (s.setParsed p).seq = s.seq := rfl
@[simp] theorem State.setParsed_cfg (s : State) (p : Parsed) : (s.setParsed p).cfg = s.cfg := rfl
@[simp] theorem State.setParsed_hostWords (s : State) (p : Parsed) : (s.setParsed p).hostWords = s.hostWords := rfl
@[simp] theorem State.setParsed_answers (s : State) (p : Parsed) : (s.setParsed p).answers = s.answers := rfl
@[simp] theorem State.setParsed_draws (s : State) (p : Parsed) : (s.setParsed p).draws = s.draws := rfl

/-! ### present -/

@[simp] theorem State.present_code (s : State) (w : CmdWord) : (s.present w).code = s.code := rfl
@[simp] theorem State.present_rData (s : State) (w : CmdWord) : (s.present w).rData = s.rData := rfl
@[simp] theorem State.present_rTarget (s : State) (w : CmdWord) : (s.present w).rTarget = s.rTarget := rfl
@[simp] theorem State.present_rSource (s : State) (w : CmdWord) : (s.present w).rSource = s.rSource := rfl
@[simp] theorem State.present_rDab (s : State) (w : CmdWord) : (s.present w).rDab = s.rDab := rfl
@[simp] theorem State.present_rSab (s : State) (w : CmdWord) : (s.present w).rSab = s.rSab := rfl
@[simp] theorem State.present_rWlen (s : State) (w : CmdWord) : (s.present w).rWlen = s.rWlen := rfl
@[simp] theorem State.present_rOff (s : State) (w : CmdWord) : (s.present w).rOff = s.rOff := rfl
@[simp] theorem State.present_myAddr (s : State) (w : CmdWord) : (s.present w).myAddr = s.myAddr := rfl
@[simp] theorem State.present_drv (s : State) (w : CmdWord) : (s.present w).drv = s.drv := rfl
@[simp] theorem State.present_selN (s : State) (w : CmdWord) : (s.present w).selN = s.selN := rfl
@[simp] theorem State.present_payBuf (s : State) (w : CmdWord) : (s.present w).payBuf = s.payBuf := rfl
@[simp] theorem State.present_txBuf (s : State) (w : CmdWord) : (s.present w).txBuf = s.txBuf := rfl
@[simp] theorem State.present_rxBuf (s : State) (w : CmdWord) : (s.present w).rxBuf = s.rxBuf := rfl
@[simp] theorem State.present_hist (s : State) (w : CmdWord) : (s.present w).hist = s.hist := rfl
@[simp] theorem State.present_seq (s : State) (w : CmdWord) : (s.present w).seq = .idle := rfl
@[simp] theorem State.present_cfg (s : State) (w : CmdWord) : (s.present w).cfg = s.cfg := rfl
@[simp] theorem State.present_hostWords (s : State) (w : CmdWord) : (s.present w).hostWords = w :: s.hostWords := rfl
@[simp] theorem State.present_answers (s : State) (w : CmdWord) : (s.present w).answers = s.answers := rfl
@[simp] theorem State.present_draws (s : State) (w : CmdWord) : (s.present w).draws = s.draws := rfl

/-! ### setCells -/

@[simp] theorem State.setCells_code (s : State) (sp : Space) (m : Memory) : (s.setCells sp m).code = s.code := by cases sp <;> rfl
@[simp] theorem State.setCells_rData (s : State) (sp : Space) (m : Memory) : (s.setCells sp m).rData = s.rData := by cases sp <;> rfl
@[simp] theorem State.setCells_rTarget (s : State) (sp : Space) (m : Memory) : (s.setCells sp m).rTarget = s.rTarget := by cases sp <;> rfl
@[simp] theorem State.setCells_rSource (s : State) (sp : Space) (m : Memory) : (s.setCells sp m).rSource = s.rSource := by cases sp <;> rfl
@[simp] theorem State.setCells_rDab (s : State) (sp : Space) (m : Memory) : (s.setCells sp m).rDab = s.rDab := by cases sp <;> rfl
@[simp] theorem State.setCells_rSab (s : State) (sp : Space) (m : Memory) : (s.setCells sp m).rSab = s.rSab := by cases sp <;> rfl
@[simp] theorem State.setCells_rWlen (s : State) (sp : Space) (m : Memory) : (s.setCells sp m).rWlen = s.rWlen := by cases sp <;> rfl
@[simp] theorem State.setCells_rOff (s : State) (sp : Space) (m : Memory) : (s.setCells sp m).rOff = s.rOff := by cases sp <;> rfl
@[simp] theorem State.setCells_myAddr (s : State) (sp : Space) (m : Memory) : (s.setCells sp m).myAddr = s.myAddr := by cases sp <;> rfl
@[simp] theorem State.setCells_drv (s : State) (sp : Space) (m : Memory) : (s.setCells sp m).drv = s.drv := by cases sp <;> rfl
@[simp] theorem State.setCells_selN (s : State) (sp : Space) (m : Memory) : (s.setCells sp m).selN = s.selN := by cases sp <;> rfl
@[simp] theorem State.setCells_hist (s : State) (sp : Space) (m : Memory) : (s.setCells sp m).hist = s.hist := by cases sp <;> rfl
@[simp] theorem State.setCells_seq (s : State) (sp : Space) (m : Memory) : (s.setCells sp m).seq = s.seq := by cases sp <;> rfl
@[simp] theorem State.setCells_cfg (s : State) (sp : Space) (m : Memory) : (s.setCells sp m).cfg = s.cfg := by cases sp <;> rfl
@[simp] theorem State.setCells_hostWords (s : State) (sp : Space) (m : Memory) : (s.setCells sp m).hostWords = s.hostWords := by cases sp <;> rfl
@[simp] theorem State.setCells_answers (s : State) (sp : Space) (m : Memory) : (s.setCells sp m).answers = s.answers := by cases sp <;> rfl
@[simp] theorem State.setCells_draws (s : State) (sp : Space) (m : Memory) : (s.setCells sp m).draws = s.draws := by cases sp <;> rfl

/-! ### memWrite -/

@[simp] theorem State.memWrite_code (s : State) (sp : Space) (i : Nat) (bs : List Byte) : (s.memWrite sp i bs).code = s.code := by simp [State.memWrite]
@[simp] theorem State.memWrite_rData (s : State) (sp : Space) (i : Nat) (bs : List Byte) : (s.memWrite sp i bs).rData = s.rData := by simp [State.memWrite]
@[simp] theorem State.memWrite_rTarget (s : State) (sp : Space) (i : Nat) (bs : List Byte) : (s.memWrite sp i bs).rTarget = s.rTarget := by simp [State.memWrite]
@[simp] theorem State.memWrite_rSource (s : State) (sp : Space) (i : Nat) (bs : List Byte) : (s.memWrite sp i bs).rSource = s.rSource := by simp [State.memWrite]
@[simp] theorem State.memWrite_rDab (s : State) (sp : Space) (i : Nat) (bs : List Byte) : (s.memWrite sp i bs).rDab = s.rDab := by simp [State.memWrite]
@[simp] theorem State.memWrite_rSab (s : State) (sp : Space) (i : Nat) (bs : List Byte) : (s.memWrite sp i bs).rSab = s.rSab := by simp [State.memWrite]
@[simp] theorem State.memWrite_rWlen (s : State) (sp : Space) (i : Nat) (bs : List Byte) : (s.memWrite sp i bs).rWlen = s.rWlen := by simp [State.memWrite]
@[simp] theorem State.memWrite_rOff (s : State) (sp : Space) (i : Nat) (bs : List Byte) : (s.memWrite sp i bs).rOff = s.rOff := by simp [State.memWrite]
@[simp] theorem State.memWrite_myAddr (s : State) (sp : Space) (i : Nat) (bs : List Byte) : (s.memWrite sp i bs).myAddr = s.myAddr := by simp [State.memWrite]
@[simp] theorem State.memWrite_drv (s : State) (sp : Space) (i : Nat) (bs : List Byte) : (s.memWrite sp i bs).drv = s.drv := by simp [State.memWrite]
@[simp] theorem State.memWrite_selN (s : State) (sp : Space) (i : Nat) (bs : List Byte) : (s.memWrite sp i bs).selN = s.selN := by simp [State.memWrite]
@[simp] theorem State.memWrite_hist (s : State) (sp : Space) (i : Nat) (bs : List Byte) : (s.memWrite sp i bs).hist = s.hist := by simp [State.memWrite]
@[simp] theorem State.memWrite_seq (s : State) (sp : Space) (i : Nat) (bs : List Byte) : (s.memWrite sp i bs).seq = s.seq := by simp [State.memWrite]
@[simp] theorem State.memWrite_cfg (s : State) (sp : Space) (i : Nat) (bs : List Byte) : (s.memWrite sp i bs).cfg = s.cfg := by simp [State.memWrite]
@[simp] theorem State.memWrite_hostWords (s : State) (sp : Space) (i : Nat) (bs : List Byte) : (s.memWrite sp i bs).hostWords = s.hostWords := by simp [State.memWrite]
@[simp] theorem State.memWrite_answers (s : State) (sp : Space) (i : Nat) (bs : List Byte) : (s.memWrite sp i bs).answers = s.answers := by simp [State.memWrite]
@[simp] theorem State.memWrite_draws (s : State) (sp : Space) (i : Nat) (bs : List Byte) : (s.memWrite sp i bs).draws = s.draws := by simp [State.memWrite]

end Sys2Proof.Machine
end

