-- ==== Sys2Proof/Laws/Memory.lean ====
section
/-! SUPPORT. The buffers: read after write, the canonical form and that every operation keeps it. -/

namespace Sys2Proof.Machine

/-- Read after write in one buffer. -/
theorem Memory.byteAt_write (m : Memory) (a : Nat) (b : Byte) (i : Nat) :
    (m.write a b).byteAt i = if i = a then some b else m.byteAt i := by
  induction m with
  | nil => simp [Memory.write, Memory.byteAt, eq_comm]
  | cons c m ih =>
    obtain ⟨k, c⟩ := c
    rw [Memory.write]
    by_cases h3 : i = a
    · subst h3
      rw [if_pos rfl] at ih ⊢
      split_ifs with h1 h2
      · rw [Memory.byteAt, if_pos rfl]
      · rw [Memory.byteAt, if_pos rfl]
      · rw [Memory.byteAt, ih, if_neg (Ne.symm h2)]
    · rw [if_neg h3] at ih ⊢
      split_ifs with h1 h2
      · rw [Memory.byteAt, if_neg (Ne.symm h3)]
      · rw [Memory.byteAt, Memory.byteAt, if_neg (Ne.symm h3), if_neg (h2 ▸ Ne.symm h3)]
      · rw [Memory.byteAt, Memory.byteAt, ih]

/-- Read after a write of several bytes. -/
theorem Memory.byteAt_writeBytes (bs : List Byte) (m : Memory) (i a : Nat) :
    (m.writeBytes i bs).byteAt a =
      if i ≤ a ∧ a < i + bs.length then bs[a - i]? else m.byteAt a := by
  induction bs generalizing m i with
  | nil =>
    have h : ¬ (i ≤ a ∧ a < i) := by omega
    simp [Memory.writeBytes, h]
  | cons b bs ih =>
    rw [Memory.writeBytes, ih, Memory.byteAt_write, List.length_cons]
    by_cases ha : a = i
    · subst ha
      have h1 : ¬ (a + 1 ≤ a ∧ a < a + 1 + bs.length) := by omega
      simp
    · by_cases h : i + 1 ≤ a ∧ a < i + 1 + bs.length
      · obtain ⟨d, rfl⟩ : ∃ d, a = i + 1 + d := ⟨a - (i + 1), by omega⟩
        have h2 : i ≤ i + 1 + d ∧ i + 1 + d < i + (bs.length + 1) := by omega
        have h3 : i + 1 + d - i = d + 1 := by omega
        rw [if_pos h, if_pos h2, h3, List.getElem?_cons_succ]
        congr 1
        omega
      · rw [if_neg h, if_neg ha, if_neg (by omega)]

/-- Where the cells of a written buffer stand. -/
theorem Memory.mem_write {m : Memory} {a : Nat} {b : Byte} {c : Host.Cell} (h : c ∈ m.write a b) :
    c = (a, b) ∨ c ∈ m := by
  induction m with
  | nil => simpa [Memory.write] using h
  | cons d m ih =>
    obtain ⟨k, d⟩ := d
    simp only [Memory.write] at h
    split_ifs at h
    · simpa using h
    · rcases List.mem_cons.1 h with h | h
      · exact .inl h
      · exact .inr (List.mem_cons_of_mem _ h)
    · rcases List.mem_cons.1 h with h | h
      · exact .inr (h ▸ List.mem_cons_self)
      · exact (ih h).imp id (List.mem_cons_of_mem _)

/-- A write inside the buffer keeps its canonical form. -/
theorem Memory.write_wf {size : Nat} {m : Memory} (hm : Memory.wf size m) {a : Nat} (ha : a < size)
    (b : Byte) : Memory.wf size (m.write a b) := by
  refine ⟨?_, fun c hc => ?_⟩
  · have hs := hm.1
    clear hm
    induction m with
    | nil => simp [Memory.write]
    | cons d m ih =>
      obtain ⟨k, d⟩ := d
      rw [List.pairwise_cons] at hs
      simp only [Memory.write]
      split_ifs with h1 h2
      · refine List.pairwise_cons.2 ⟨fun e he => ?_, List.pairwise_cons.2 hs⟩
        rcases List.mem_cons.1 he with rfl | he
        · exact h1
        · exact h1.trans (hs.1 e he)
      · subst h2
        exact List.pairwise_cons.2 hs
      · refine List.pairwise_cons.2 ⟨fun e he => ?_, ih hs.2⟩
        rcases Memory.mem_write he with rfl | he
        · show k < a
          omega
        · exact hs.1 e he
  · rcases Memory.mem_write hc with rfl | hc
    · exact ha
    · exact hm.2 c hc

/-- A write of several bytes inside the buffer keeps its canonical form. -/
theorem Memory.writeBytes_wf {size : Nat} (bs : List Byte) {m : Memory} (hm : Memory.wf size m) {i : Nat}
    (h : i + bs.length ≤ size) : Memory.wf size (m.writeBytes i bs) := by
  induction bs generalizing m i with
  | nil => exact hm
  | cons b bs ih =>
    rw [List.length_cons] at h
    exact ih (Memory.write_wf hm (by omega) b) (by omega)

/-- Nothing is written below the first cell of a canonical buffer. -/
theorem Memory.byteAt_below {m : Memory} {a : Nat} (h : ∀ c ∈ m, a < c.1) : m.byteAt a = none := by
  induction m with
  | nil => rfl
  | cons c m ih =>
    have hc : ¬ c.1 = a := by have := h c List.mem_cons_self; omega
    simp only [Memory.byteAt, if_neg hc]
    exact ih fun d hd => h d (List.mem_cons_of_mem _ hd)

/-- The form is canonical: buffers written alike are equal data. -/
theorem Memory.eq_of_byteAt {size : Nat} {m m' : Memory} (hm : Memory.wf size m) (hm' : Memory.wf size m')
    (h : ∀ a, m.byteAt a = m'.byteAt a) : m = m' := by
  replace hm := hm.1
  replace hm' := hm'.1
  induction m generalizing m' with
  | nil =>
    cases m' with
    | nil => rfl
    | cons d m' => simpa [Memory.byteAt] using h d.1
  | cons c m ih =>
    cases m' with
    | nil => simpa [Memory.byteAt] using h c.1
    | cons d m' =>
      rw [List.pairwise_cons] at hm hm'
      have hcd : c.1 = d.1 := by
        by_contra hne
        rcases Nat.lt_or_gt_of_ne hne with hlt | hlt
        · have h1 := h c.1
          rw [Memory.byteAt_below (m := d :: m') (a := c.1)] at h1
          · simp [Memory.byteAt] at h1
          · intro e he
            rcases List.mem_cons.1 he with rfl | he
            · exact hlt
            · exact hlt.trans (hm'.1 e he)
        · have h1 := h d.1
          rw [Memory.byteAt_below (m := c :: m) (a := d.1)] at h1
          · simp [Memory.byteAt] at h1
          · intro e he
            rcases List.mem_cons.1 he with rfl | he
            · exact hlt
            · exact hlt.trans (hm.1 e he)
      have h2 : c.2 = d.2 := by simpa [Memory.byteAt, hcd] using h c.1
      have htail : ∀ a, Memory.byteAt m a = Memory.byteAt m' a := by
        intro a
        by_cases ha : c.1 = a
        · rw [Memory.byteAt_below fun e he => ha ▸ hm.1 e he,
            Memory.byteAt_below fun e he => ha ▸ hcd ▸ hm'.1 e he]
        · have h3 := h a
          have hd : ¬ d.1 = a := hcd ▸ ha
          simpa [Memory.byteAt, ha, hd] using h3
      rw [ih htail hm.2 hm'.2, Prod.ext hcd h2]

/-! ### The three buffers -/

@[simp] theorem State.cells_setCells_same (s : State) (sp : Space) (m : Memory) :
    (s.setCells sp m).cells sp = m := by cases sp <;> rfl

theorem State.cells_setCells (s : State) (sp sp' : Space) (m : Memory) :
    (s.setCells sp m).cells sp' = if sp' = sp then m else s.cells sp' := by
  cases sp <;> cases sp' <;> rfl

/-- A write that puts a buffer's own cells back changes nothing. -/
@[simp] theorem State.setCells_cells (s : State) (sp : Space) : s.setCells sp (s.cells sp) = s := by
  cases sp <;> rfl

/-- Reading a byte depends on the cells of its buffer alone. -/
theorem State.readByte_congr {s t : State} {sp : Space} (h : s.cells sp = t.cells sp) (a : Nat) :
    s.readByte sp a = t.readByte sp a := by
  simp only [State.readByte, h]

/-- MemWrite, read back byte by byte: the written bytes where they lie, every other byte as before. -/
theorem State.readByte_memWrite (s : State) (sp : Space) (i : Nat) (bs : List Byte) (sp' : Space) (a : Nat) :
    (s.memWrite sp i bs).readByte sp' a =
      if sp' = sp ∧ i ≤ a ∧ a < i + bs.length then bs.getD (a - i) 0 else s.readByte sp' a := by
  simp only [State.readByte, State.memWrite, State.cells_setCells]
  by_cases hsp : sp' = sp
  · subst hsp
    simp only [if_true, true_and, Memory.byteAt_writeBytes]
    by_cases h : i ≤ a ∧ a < i + bs.length
    · have hl : a - i < bs.length := by omega
      simp [h, List.getElem?_eq_getElem hl]
    · simp [h]
  · simp [hsp]

@[simp] theorem State.length_memRead (s : State) (sp : Space) (i n : Nat) : (s.memRead sp i n).length = n := by
  simp [State.memRead]

/-- MemRead, byte by byte. -/
theorem State.getElem?_memRead (s : State) (sp : Space) (i n j : Nat) (h : j < n) :
    (s.memRead sp i n)[j]? = some (s.readByte sp (i + j)) := by
  simp [State.memRead, h]

/-- MemRead returns what MemWrite wrote. -/
theorem State.memRead_memWrite (s : State) (sp : Space) (i : Nat) (bs : List Byte) :
    (s.memWrite sp i bs).memRead sp i bs.length = bs := by
  apply List.ext_getElem
  · simp
  · intro j h1 h2
    simp [State.memRead, State.readByte_memWrite, h2]

/-- The size of every buffer is fixed by the configuration. -/
theorem State.sizeOf_congr {s t : State} (h : s.cfg = t.cfg) (sp : Space) : s.sizeOf sp = t.sizeOf sp := by
  cases sp <;> simp [State.sizeOf, h]

end Sys2Proof.Machine
end

