-- ==== Sys2Proof/Laws/Ops.lean ====
section
/-! SUPPORT. What each shared operation does, said once: transactions, the answers they take, and the end of
a command. -/

namespace Sys2Proof.Machine

/-! ### Answers -/

/-- The answers after `k` have been taken. -/
@[simp] theorem State.answerAt_tookAnswers (s : State) (k j : Nat) :
    (s.tookAnswers k).answerAt j = s.answerAt (k + j) := by
  simp [State.answerAt, Nat.add_assoc]

/-- The answers depend on the model's two input fields alone. -/
theorem State.answerAt_congr {s t : State} (ha : t.answers = s.answers) (hd : t.draws = s.draws) (j : Nat) :
    t.answerAt j = s.answerAt j := by
  simp only [State.answerAt, ha, hd]

/-- The answers in a state that has taken `k` of them. -/
theorem State.answerAt_shift {s t : State} {k : Nat} (ha : t.answers = s.answers.drop k)
    (hd : t.draws = s.draws + k) (j : Nat) : t.answerAt j = s.answerAt (k + j) := by
  simp [State.answerAt, ha, hd, Nat.add_assoc]

@[simp] theorem State.length_answerBytes (s : State) (k : Nat) : (s.answerBytes k).length = k := by
  simp [State.answerBytes]

/-- Taking `k` answers and then `l` is taking `k + l`. -/
theorem State.answerBytes_add (s : State) (k l : Nat) :
    s.answerBytes (k + l) = s.answerBytes k ++ (s.tookAnswers k).answerBytes l := by
  simp [State.answerBytes, List.range_add, Function.comp_def]

/-! ### Transactions (R82 to R86) -/

theorem State.xWrite_eq (s : State) (bs : List Byte) :
    s.xWrite bs = { s with selN := 1, hist := s.hist ++ [.write bs] } := rfl

theorem State.xReadReg_eq (s : State) (a : Byte) :
    s.xReadReg a = { s with
      selN := 1
      hist := s.hist ++ [.readReg a s.answer]
      answers := s.answers.drop 1
      draws := s.draws + 1 } := rfl

theorem State.xReadBurst_eq (s : State) (k : Nat) :
    s.xReadBurst k = { s with
      selN := 1
      hist := s.hist ++ [.readBurst k (s.answerBytes k)]
      answers := s.answers.drop k
      draws := s.draws + k } := rfl

/-- Writes one after the other, the select line deasserted before them. -/
theorem State.foldl_xWrite (records : List (List Byte)) (s : State) (h : s.selN = 1) :
    records.foldl State.xWrite s = { s with hist := s.hist ++ records.map Event.write } := by
  induction records generalizing s with
  | nil => simp
  | cons r rs ih =>
    rw [List.foldl_cons, ih _ (by simp), State.xWrite_eq]
    simp [← h]

/-! ### The end of a command (R103, R110) -/

theorem State.endWith_eq (s : State) (e : Status) : s.endWith e = { s with code := e.code, seq := .idle } := rfl

theorem State.finish_eq (s : State) : s.finish = { s with code := 0, seq := .idle } := rfl

theorem State.raise_eq (s : State) (e : Status) : s.raise e = { s with code := e.code, seq := .idle } := rfl

/-- No status has a code above 9 (R104). -/
theorem Status.code_le (e : Status) : e.code.toNat ≤ 9 := by cases e <;> decide

/-- Different statuses have different codes (R104). -/
theorem Status.code_injective : ∀ e e' : Status, e.code = e'.code → e = e' := by
  intro e e' h
  cases e <;> cases e' <;> first | rfl | exact absurd h (by decide)

/-! ### Limits -/

/-- A limit that is not reached later was not reached before. -/
theorem limitReached_mono {limit : Option Nat} {c c' : Nat} (h : c ≤ c') (h' : limitReached limit c' = false) :
    limitReached limit c = false := by
  cases limit with
  | none => rfl
  | some l =>
    simp only [limitReached, decide_eq_false_iff_not] at h' ⊢
    omega

/-- When a limit is not reached, in the words of R90. -/
theorem limitReached_eq_false {limit : Option Nat} {c : Nat} :
    limitReached limit c = false ↔ ∀ l, limit = some l → c < l := by
  cases limit with
  | none => simp [limitReached]
  | some l => simp [limitReached]

end Sys2Proof.Machine
end

