-- ==== Sys2Proof/Laws/Driver.lean ====
section
/-! SUPPORT. The driver's operations, each said once: the three outcomes of a poll, and the fixed strobe
sequences. -/

namespace Sys2Proof.Machine

/-- The init-table replay, the select line deasserted before it: one write for each record (R92). -/
theorem State.initReplay_eq (s : State) (h : s.selN = 1) :
    s.initReplay = { s with hist := s.hist ++ ((initRecords s.cfg.initRom).getD []).map Event.write } := by
  unfold State.initReplay
  cases initRecords s.cfg.initRom with
  | none => simp
  | some records => simp [State.foldl_xWrite _ _ h]

/-- A ready poll that is answered ready ends RESET with OK (R90, R92, R93). -/
theorem State.readyPoll_ready (s : State) (pcnt : Nat) (h : s.answer &&& s.cfg.readyMask = s.cfg.readyValue) :
    s.readyPoll pcnt = { s with
      drv := .rx
      code := 0
      seq := .idle
      selN := 1
      hist := s.hist ++ [.readReg s.cfg.readyAddr s.answer] ++
        ((initRecords s.cfg.initRom).getD []).map Event.write
      answers := s.answers.drop 1
      draws := s.draws + 1 } := by
  have hx := State.initReplay_eq (s.xReadReg s.cfg.readyAddr) (by simp)
  simp only [State.readyPoll, State.xReadReg_cfg, if_pos h, State.resetReady, hx]
  rfl

/-- A ready poll that fails and reaches the limit ends RESET with ChipNotReady (R90, R107). -/
theorem State.readyPoll_limit (s : State) (pcnt : Nat)
    (h : ¬ s.answer &&& s.cfg.readyMask = s.cfg.readyValue)
    (hl : limitReached s.cfg.readyPollLimit (pcnt + 1) = true) :
    s.readyPoll pcnt = { s with
      drv := .uninit
      code := 6
      seq := .idle
      selN := 1
      hist := s.hist ++ [.readReg s.cfg.readyAddr s.answer]
      answers := s.answers.drop 1
      draws := s.draws + 1 } := by
  simp only [State.readyPoll, State.xReadReg_cfg, if_neg h, hl, if_true]
  rfl

/-- A ready poll that fails below the limit goes on waiting (R90). -/
theorem State.readyPoll_wait (s : State) (pcnt : Nat)
    (h : ¬ s.answer &&& s.cfg.readyMask = s.cfg.readyValue)
    (hl : limitReached s.cfg.readyPollLimit (pcnt + 1) = false) :
    s.readyPoll pcnt = { s with
      seq := .readyWait (pcnt + 1)
      selN := 1
      hist := s.hist ++ [.readReg s.cfg.readyAddr s.answer]
      answers := s.answers.drop 1
      draws := s.draws + 1 } := by
  simp only [State.readyPoll, State.xReadReg_cfg, if_neg h, hl]
  rfl

/-- A TX-done poll that is answered done ends SEND with OK (R91, R94). -/
theorem State.txPoll_done (s : State) (pcnt : Nat) (h : s.answer &&& s.cfg.txdoneMask = 0) :
    s.txPoll pcnt = { s with
      drv := .rx
      code := 0
      seq := .idle
      selN := 1
      hist := s.hist ++ [.delay s.cfg.txPollUs, .readReg s.cfg.txdoneAddr s.answer] ++
        [.write [s.cfg.sSidle], .write [s.cfg.sSrx]]
      answers := s.answers.drop 1
      draws := s.draws + 1 } := by
  have ha : (s.delay s.cfg.txPollUs).answer = s.answer := rfl
  simp only [State.txPoll, State.delay_cfg, State.xReadReg_eq, ha]
  simp [h, State.enterRx, State.forceIdle, State.strobe, State.xWrite_eq, State.finish_eq, State.delay, State.record]

/-- A TX-done poll that fails and reaches the limit ends SEND with ChipNotReady (R91, R107). -/
theorem State.txPoll_limit (s : State) (pcnt : Nat) (h : ¬ s.answer &&& s.cfg.txdoneMask = 0)
    (hl : limitReached s.cfg.txPollLimit (pcnt + 1) = true) :
    s.txPoll pcnt = { s with
      drv := .uninit
      code := 6
      seq := .idle
      selN := 1
      hist := s.hist ++ [.delay s.cfg.txPollUs, .readReg s.cfg.txdoneAddr s.answer]
      answers := s.answers.drop 1
      draws := s.draws + 1 } := by
  have ha : (s.delay s.cfg.txPollUs).answer = s.answer := rfl
  simp only [State.txPoll, State.delay_cfg, State.xReadReg_eq, ha]
  have h0 : ¬ s.answer &&& s.cfg.txdoneMask = 0#8 := h
  simp [h0, hl, State.raiseChipNotReady, State.raise_eq, Status.code, State.delay, State.record]

/-- A TX-done poll that fails below the limit goes on waiting (R91). -/
theorem State.txPoll_wait (s : State) (pcnt : Nat) (h : ¬ s.answer &&& s.cfg.txdoneMask = 0)
    (hl : limitReached s.cfg.txPollLimit (pcnt + 1) = false) :
    s.txPoll pcnt = { s with
      seq := .txWait (pcnt + 1)
      selN := 1
      hist := s.hist ++ [.delay s.cfg.txPollUs, .readReg s.cfg.txdoneAddr s.answer]
      answers := s.answers.drop 1
      draws := s.draws + 1 } := by
  have ha : (s.delay s.cfg.txPollUs).answer = s.answer := rfl
  simp only [State.txPoll, State.delay_cfg, State.xReadReg_eq, ha]
  have h0 : ¬ s.answer &&& s.cfg.txdoneMask = 0#8 := h
  simp [h0, hl, State.delay, State.record]

/-- SEND before its wait (R94). -/
theorem State.sendStart_eq (s : State) (n : Nat) :
    s.sendStart n = { s with
      drv := .tx
      selN := 1
      hist := s.hist ++ [.write [s.cfg.sSftx], .write [s.cfg.sSidle],
        .write (s.cfg.txfifoHdr :: s.memRead .tx 0 n), .write [s.cfg.sStx]] } := by
  simp only [State.sendStart, State.enterTx, State.forceIdle, State.strobe, State.xWrite_eq]
  simp [State.memRead, State.readByte, State.cells]

/-- The strobes at the end of RECEIVE (R95). -/
theorem State.resetRxFraming_eq (s : State) :
    s.resetRxFraming = { s with
      drv := .rx
      selN := 1
      hist := s.hist ++ [.write [s.cfg.sSidle], .write [s.cfg.sSfrx], .write [s.cfg.sSftx],
        .write [s.cfg.sSrx]] } := by
  simp only [State.resetRxFraming, State.enterRx, State.forceIdle, State.strobe, State.xWrite_eq]
  simp

/-- RECEIVE with occupancy, after its occupancy read (R95). -/
theorem State.receiveBurst_eq (s : State) (k : Nat) :
    s.receiveBurst k = { s with
      rxBuf := s.rxBuf.writeBytes 0 (s.answerBytes k)
      rData := BitVec.ofNat 8 k
      drv := .rx
      code := 0
      seq := .idle
      selN := 1
      hist := s.hist ++ [.readBurst k (s.answerBytes k), .write [s.cfg.sSidle], .write [s.cfg.sSfrx],
        .write [s.cfg.sSftx], .write [s.cfg.sSrx]]
      answers := s.answers.drop k
      draws := s.draws + k } := by
  simp only [State.receiveBurst, State.resetRxFraming_eq, State.finish_eq, State.xReadBurst_eq,
    State.memWrite, State.setCells, State.cells]
  simp

/-- What a ready poll can do, said once (R90, R93). -/
theorem State.readyPoll_cases (s : State) (pcnt : Nat) :
    (s.answer &&& s.cfg.readyMask = s.cfg.readyValue ∧
      s.readyPoll pcnt = { s with
        drv := .rx
        code := 0
        seq := .idle
        selN := 1
        hist := s.hist ++ [.readReg s.cfg.readyAddr s.answer] ++
          ((initRecords s.cfg.initRom).getD []).map Event.write
        answers := s.answers.drop 1
        draws := s.draws + 1 }) ∨
    (limitReached s.cfg.readyPollLimit (pcnt + 1) = true ∧
      s.readyPoll pcnt = { s with
        drv := .uninit
        code := 6
        seq := .idle
        selN := 1
        hist := s.hist ++ [.readReg s.cfg.readyAddr s.answer]
        answers := s.answers.drop 1
        draws := s.draws + 1 }) ∨
    (limitReached s.cfg.readyPollLimit (pcnt + 1) = false ∧
      s.readyPoll pcnt = { s with
        seq := .readyWait (pcnt + 1)
        selN := 1
        hist := s.hist ++ [.readReg s.cfg.readyAddr s.answer]
        answers := s.answers.drop 1
        draws := s.draws + 1 }) := by
  by_cases h : s.answer &&& s.cfg.readyMask = s.cfg.readyValue
  · exact .inl ⟨h, s.readyPoll_ready pcnt h⟩
  · cases hl : limitReached s.cfg.readyPollLimit (pcnt + 1) with
    | true => exact .inr (.inl ⟨rfl, s.readyPoll_limit pcnt h hl⟩)
    | false => exact .inr (.inr ⟨rfl, s.readyPoll_wait pcnt h hl⟩)

/-- What a TX-done poll can do, said once (R91, R94). -/
theorem State.txPoll_cases (s : State) (pcnt : Nat) :
    (s.answer &&& s.cfg.txdoneMask = 0 ∧
      s.txPoll pcnt = { s with
        drv := .rx
        code := 0
        seq := .idle
        selN := 1
        hist := s.hist ++ [.delay s.cfg.txPollUs, .readReg s.cfg.txdoneAddr s.answer] ++
          [.write [s.cfg.sSidle], .write [s.cfg.sSrx]]
        answers := s.answers.drop 1
        draws := s.draws + 1 }) ∨
    (limitReached s.cfg.txPollLimit (pcnt + 1) = true ∧
      s.txPoll pcnt = { s with
        drv := .uninit
        code := 6
        seq := .idle
        selN := 1
        hist := s.hist ++ [.delay s.cfg.txPollUs, .readReg s.cfg.txdoneAddr s.answer]
        answers := s.answers.drop 1
        draws := s.draws + 1 }) ∨
    (limitReached s.cfg.txPollLimit (pcnt + 1) = false ∧
      s.txPoll pcnt = { s with
        seq := .txWait (pcnt + 1)
        selN := 1
        hist := s.hist ++ [.delay s.cfg.txPollUs, .readReg s.cfg.txdoneAddr s.answer]
        answers := s.answers.drop 1
        draws := s.draws + 1 }) := by
  by_cases h : s.answer &&& s.cfg.txdoneMask = 0
  · exact .inl ⟨h, s.txPoll_done pcnt h⟩
  · cases hl : limitReached s.cfg.txPollLimit (pcnt + 1) with
    | true => exact .inr (.inl ⟨rfl, s.txPoll_limit pcnt h hl⟩)
    | false => exact .inr (.inr ⟨rfl, s.txPoll_wait pcnt h hl⟩)

end Sys2Proof.Machine
end

