-- ==== Sys2Proof/Laws/PerInstr.lean ====
section
/-! SUPPORT. What holds of each command by its encoding: its word is covered by the row of R55 that has its
mnemonic. -/

namespace Sys2Proof.Laws

open Sys2Proof

/-- The word of the command belongs to the row of the table of R55 with the command's mnemonic. -/
def EncodeMatchesRow.Statement (i : Instr) : Prop :=
  ∃ r ∈ opTable, r.mnemonic = i.mnemonic ∧ r.covers (encode i) = true

/-- A mask acts on a command word field by field. -/
theorem commandWord_and (op : BitVec 4) (a b : BitVec 24) (n : BitVec 8) (m : CmdWord) :
    commandWord op a b n &&& m =
      commandWord (op &&& fieldOp m) (a &&& fieldA m) (b &&& fieldB m) (n &&& fieldN m) := by
  have hf : ∀ k l, (commandWord op a b n &&& m).extractLsb' k l =
      (commandWord op a b n).extractLsb' k l &&& m.extractLsb' k l := fun _ _ => BitVec.extractLsb'_and
  have hr : fieldRsv (commandWord op a b n &&& m) = 0 := by
    have h := fieldRsv_commandWord op a b n
    simp only [fieldRsv] at h ⊢
    simp [hf, h]
  rw [← commandWord_fields _ hr]
  have h1 := fieldOp_commandWord op a b n
  have h2 := fieldA_commandWord op a b n
  have h3 := fieldB_commandWord op a b n
  have h4 := fieldN_commandWord op a b n
  simp only [fieldOp, fieldA, fieldB, fieldN] at h1 h2 h3 h4 ⊢
  simp only [hf, h1, h2, h3, h4]

/-- All four bits of a mask leave an opcode as it is. -/
theorem and_fifteen (op : BitVec 4) : op &&& 15#4 = op := by revert op; decide

/-- A word of any fields, all but its top byte masked out. -/
theorem commandWord_and_top (op : BitVec 4) (a b : BitVec 24) (n : BitVec 8) :
    commandWord op a b n &&& 0xFF00000000000000 = commandWord op 0 0 0 := by
  rw [commandWord_and, show fieldOp 0xFF00000000000000 = BitVec.allOnes 4 by decide,
    show fieldA 0xFF00000000000000 = 0 by decide, show fieldB 0xFF00000000000000 = 0 by decide,
    show fieldN 0xFF00000000000000 = 0 by decide]
  simp [and_fifteen]

/-- A word with A = B = 0, its low byte masked out. -/
theorem commandWord_and_low (op : BitVec 4) (n : BitVec 8) :
    commandWord op 0 0 n &&& 0xFFFFFFFFFFFFFF00 = commandWord op 0 0 0 := by
  rw [commandWord_and, show fieldOp 0xFFFFFFFFFFFFFF00 = BitVec.allOnes 4 by decide,
    show fieldN 0xFFFFFFFFFFFFFF00 = 0 by decide]
  simp [and_fifteen]

/-- A word of format F_BUF, its three operand fields masked out. -/
theorem commandWord_and_buf (op : BitVec 4) (sp : BitVec 2) (idx n : BitVec 8) :
    commandWord op (sp.setWidth 24) (idx.setWidth 24) n &&& 0xFFFFFFFCFFFF0000 = commandWord op 0 0 0 := by
  have hs : sp.setWidth 24 &&& 0xFFFFFC = 0 := by revert sp; decide
  have hi : idx.setWidth 24 &&& 0xFFFF00 = 0 := by revert idx; decide
  rw [commandWord_and, show fieldOp 0xFFFFFFFCFFFF0000 = BitVec.allOnes 4 by decide,
    show fieldA 0xFFFFFFFCFFFF0000 = 0xFFFFFC by decide, show fieldB 0xFFFFFFFCFFFF0000 = 0xFFFF00 by decide,
    show fieldN 0xFFFFFFFCFFFF0000 = 0 by decide, hs, hi]
  simp [and_fifteen]

/-- The same with the low byte kept, where it is 0. -/
theorem commandWord_and_buf_low (op : BitVec 4) (sp : BitVec 2) (idx : BitVec 8) :
    commandWord op (sp.setWidth 24) (idx.setWidth 24) 0 &&& 0xFFFFFFFCFFFF00FF = commandWord op 0 0 0 := by
  have hs : sp.setWidth 24 &&& 0xFFFFFC = 0 := by revert sp; decide
  have hi : idx.setWidth 24 &&& 0xFFFF00 = 0 := by revert idx; decide
  rw [commandWord_and, show fieldOp 0xFFFFFFFCFFFF00FF = BitVec.allOnes 4 by decide,
    show fieldA 0xFFFFFFFCFFFF00FF = 0xFFFFFC by decide, show fieldB 0xFFFFFFFCFFFF00FF = 0xFFFF00 by decide, hs, hi]
  simp [and_fifteen]

theorem EncodeMatchesRow.encode (target source : Addr) (reqLen : Byte) :
    EncodeMatchesRow.Statement (.encode target source reqLen) :=
  ⟨_, List.getElem_mem (n := 0) (by decide), rfl, decide_eq_true (commandWord_and_top ..)⟩

theorem EncodeMatchesRow.decode (n : Byte) : EncodeMatchesRow.Statement (.decode n) :=
  ⟨_, List.getElem_mem (n := 1) (by decide), rfl, decide_eq_true (commandWord_and_low ..)⟩

theorem EncodeMatchesRow.reset : EncodeMatchesRow.Statement .reset :=
  ⟨_, List.getElem_mem (n := 2) (by decide), rfl, by decide⟩

theorem EncodeMatchesRow.send (n : Byte) : EncodeMatchesRow.Statement (.send n) :=
  ⟨_, List.getElem_mem (n := 3) (by decide), rfl, decide_eq_true (commandWord_and_low ..)⟩

theorem EncodeMatchesRow.receive (capacity : Byte) : EncodeMatchesRow.Statement (.receive capacity) :=
  ⟨_, List.getElem_mem (n := 4) (by decide), rfl, decide_eq_true (commandWord_and_low ..)⟩

theorem EncodeMatchesRow.readreg (addr : Byte) : EncodeMatchesRow.Statement (.readreg addr) :=
  ⟨_, List.getElem_mem (n := 5) (by decide), rfl, decide_eq_true (commandWord_and_low ..)⟩

theorem EncodeMatchesRow.bufwr (sp : SpaceCode) (idx data : Byte) :
    EncodeMatchesRow.Statement (.bufwr sp idx data) :=
  ⟨_, List.getElem_mem (n := 6) (by decide), rfl, decide_eq_true (commandWord_and_buf ..)⟩

theorem EncodeMatchesRow.bufrd (sp : SpaceCode) (idx : Byte) : EncodeMatchesRow.Statement (.bufrd sp idx) :=
  ⟨_, List.getElem_mem (n := 7) (by decide), rfl, decide_eq_true (commandWord_and_buf_low ..)⟩

end Sys2Proof.Laws
end

