-- ==== Sys2Proof/Laws/Step.lean ====
section
/-! SUPPORT. What each command and a step can do, said once: "if it answers next t, then …". -/

namespace Sys2Proof.Machine

/-- Every command answers a next state: "No status is a model fault" (R120). -/
theorem exec_next (i : Instr) (s : State) : ∃ t, exec i s = .next t := by
  cases i <;> exact ⟨_, rfl⟩

theorem execEncode_cases {t src : Addr} {r : Byte} {s s' : State} (h : exec (.encode t src r) s = .next s') :
    (lenCode r.toNat = none ∧ s' = s.raise .lengthOverflow) ∨
    ∃ code wl, lenCode r.toNat = some (code, wl) ∧
      s' = ({ s.memWrite .tx 0 (buildFrame t src code (s.memRead .pay 0 wl)) with
        rData := BitVec.ofNat 8 (3 + abcTarget t + abcSource src + wl) } : State).finish := by
  simp only [exec, execEncode, Host.Outcome.next.injEq] at h
  cases hl : lenCode r.toNat with
  | none => exact .inl ⟨rfl, by rw [← h, hl]⟩
  | some cw => exact .inr ⟨cw.1, cw.2, rfl, by rw [← h, hl]⟩

theorem execDecode_cases {n : Byte} {s s' : State} (h : exec (.decode n) s = .next s') :
    (s.sizeOf .rx < n.toNat ∧ s' = s.raise .operandError) ∨
    (n.toNat ≤ s.sizeOf .rx ∧ ∃ e, parseFrame s.myAddr (s.memRead .rx 0 n.toNat) = .error e ∧ s' = s.raise e) ∨
    (n.toNat ≤ s.sizeOf .rx ∧ ∃ p, parseFrame s.myAddr (s.memRead .rx 0 n.toNat) = .ok p ∧
      s' = (s.setParsed p).finish) := by
  simp only [exec, execDecode, Host.Outcome.next.injEq] at h
  split_ifs at h with hn
  · exact .inl ⟨hn, h.symm⟩
  · refine .inr ?_
    cases hp : parseFrame s.myAddr (s.memRead .rx 0 n.toNat) with
    | error e => exact .inl ⟨by omega, e, rfl, by rw [← h, hp]⟩
    | ok p => exact .inr ⟨by omega, p, rfl, by rw [← h, hp]⟩

theorem execReset_cases {s s' : State} (h : exec .reset s = .next s') :
    s' = ({ s with drv := .uninit } : State).readyPoll 0 := by
  simpa [exec, execReset, eq_comm] using h

theorem execSend_cases {n : Byte} {s s' : State} (h : exec (.send n) s = .next s') :
    ((n = 0 ∨ 73 < n.toNat) ∧ s' = s.raise .operandError) ∨
    (¬ (n = 0 ∨ 73 < n.toNat) ∧ s.drv ≠ .rx ∧ s' = s.raise .notInitialised) ∨
    (¬ (n = 0 ∨ 73 < n.toNat) ∧ s.drv = .rx ∧ s' = (s.sendStart n.toNat).txPoll 0) := by
  simp only [exec, execSend, Host.Outcome.next.injEq] at h
  split_ifs at h with h1 h2
  · exact .inl ⟨h1, h.symm⟩
  · exact .inr (.inl ⟨h1, h2, h.symm⟩)
  · exact .inr (.inr ⟨h1, not_not.1 h2, h.symm⟩)

theorem execReceive_cases {c : Byte} {s s' : State} (h : exec (.receive c) s = .next s') :
    ((c = 0 ∨ s.cfg.rxBufSize < c.toNat) ∧ s' = s.raise .operandError) ∨
    (¬ (c = 0 ∨ s.cfg.rxBufSize < c.toNat) ∧ s.drv ≠ .rx ∧ s' = s.raise .notInitialised) ∨
    (¬ (c = 0 ∨ s.cfg.rxBufSize < c.toNat) ∧ s.drv = .rx ∧ s.occupancy = 0 ∧
      s' = ({ s.xReadReg s.cfg.rxoccAddr with rData := 0 } : State).finish) ∨
    (¬ (c = 0 ∨ s.cfg.rxBufSize < c.toNat) ∧ s.drv = .rx ∧ s.occupancy ≠ 0 ∧
      s' = (s.xReadReg s.cfg.rxoccAddr).receiveBurst (min s.occupancy.toNat c.toNat)) := by
  simp only [exec, execReceive, Host.Outcome.next.injEq] at h
  split_ifs at h with h1 h2 h3
  · exact .inl ⟨h1, h.symm⟩
  · exact .inr (.inl ⟨h1, h2, h.symm⟩)
  · exact .inr (.inr (.inl ⟨h1, not_not.1 h2, h3, h.symm⟩))
  · exact .inr (.inr (.inr ⟨h1, not_not.1 h2, h3, h.symm⟩))

theorem execReadreg_cases {a : Byte} {s s' : State} (h : exec (.readreg a) s = .next s') :
    s' = ({ s.xReadReg a with rData := s.answer } : State).finish := by
  simpa [exec, execReadreg, eq_comm] using h

/-- The operand check of BUFWR and BUFRD, when it passes (R99). -/
theorem State.bufOperand_eq_some {s : State} {sp : SpaceCode} {idx : Byte} {space : Space} {i : Nat} :
    s.bufOperand sp idx = some (space, i) ↔ spaceOf sp = some space ∧ idx.toNat < s.sizeOf space ∧ i = idx.toNat := by
  unfold State.bufOperand
  cases hs : spaceOf sp with
  | none => simp
  | some x =>
    by_cases hx : idx.toNat < s.sizeOf x
    · simp only [hx, if_true, Option.some.injEq, Prod.mk.injEq]
      constructor
      · rintro ⟨rfl, rfl⟩; exact ⟨rfl, hx, rfl⟩
      · rintro ⟨rfl, -, rfl⟩; exact ⟨rfl, rfl⟩
    · simp only [hx, if_false, reduceCtorEq, Option.some.injEq, false_iff]
      rintro ⟨rfl, h, -⟩
      exact hx h

/-- The operand check of BUFWR and BUFRD, when it fails (R99). -/
theorem State.bufOperand_eq_none {s : State} {sp : SpaceCode} {idx : Byte} :
    s.bufOperand sp idx = none ↔ ∀ space, spaceOf sp = some space → s.sizeOf space ≤ idx.toNat := by
  unfold State.bufOperand
  cases hs : spaceOf sp with
  | none => simp
  | some x => by_cases hx : idx.toNat < s.sizeOf x <;> simp [hx]; omega

theorem execBufwr_cases {sp : SpaceCode} {idx data : Byte} {s s' : State}
    (h : exec (.bufwr sp idx data) s = .next s') :
    (s.bufOperand sp idx = none ∧ s' = s.raise .operandError) ∨
    ∃ space, spaceOf sp = some space ∧ idx.toNat < s.sizeOf space ∧
      s' = (s.memWrite space idx.toNat [data]).finish := by
  simp only [exec, execBufwr, Host.Outcome.next.injEq] at h
  cases hb : s.bufOperand sp idx with
  | none => exact .inl ⟨rfl, by rw [← h, hb]⟩
  | some x =>
    obtain ⟨h1, h2, h3⟩ := State.bufOperand_eq_some.1 hb
    exact .inr ⟨x.1, h1, h2, by rw [← h, hb, ← h3]⟩

theorem execBufrd_cases {sp : SpaceCode} {idx : Byte} {s s' : State} (h : exec (.bufrd sp idx) s = .next s') :
    (s.bufOperand sp idx = none ∧ s' = s.raise .operandError) ∨
    ∃ space, spaceOf sp = some space ∧ idx.toNat < s.sizeOf space ∧
      s' = ({ s with rData := s.readByte space idx.toNat } : State).finish := by
  simp only [exec, execBufrd, Host.Outcome.next.injEq] at h
  cases hb : s.bufOperand sp idx with
  | none => exact .inl ⟨rfl, by rw [← h, hb]⟩
  | some x =>
    obtain ⟨h1, h2, h3⟩ := State.bufOperand_eq_some.1 hb
    exact .inr ⟨x.1, h1, h2, by rw [← h, hb, ← h3]⟩

/-- What one step can do (log 1): wait, run a command, reject a word, or go on with a poll. -/
theorem step_cases {s t : State} (h : step s = .next t) :
    s.cfg.wf = true ∧
    ((s.seq = .idle ∧ s.hostWords = [] ∧ t = s) ∨
     (s.seq = .idle ∧ ∃ w ws i, s.hostWords = w :: ws ∧ decode w = .ok i ∧
       exec i { s with hostWords := ws } = .next t) ∨
     (s.seq = .idle ∧ ∃ w ws e, s.hostWords = w :: ws ∧ decode w = .error e ∧
       t = ({ s with hostWords := ws } : State).raise .illegalCommand) ∨
     (∃ pcnt, s.seq = .readyWait pcnt ∧ t = s.readyPoll pcnt) ∨
     (∃ pcnt, s.seq = .txWait pcnt ∧ t = s.txPoll pcnt)) := by
  unfold step at h
  split_ifs at h with hw
  · refine ⟨hw, ?_⟩
    cases hq : s.seq with
    | readyWait pcnt =>
      simp only [State.continueCommand, hq, Host.Outcome.next.injEq] at h
      exact .inr (.inr (.inr (.inl ⟨pcnt, rfl, h.symm⟩)))
    | txWait pcnt =>
      simp only [State.continueCommand, hq, Host.Outcome.next.injEq] at h
      exact .inr (.inr (.inr (.inr ⟨pcnt, rfl, h.symm⟩)))
    | idle =>
      simp only [State.continueCommand, hq, State.takeWord] at h
      cases hws : s.hostWords with
      | nil =>
        simp only [hws, Host.Outcome.next.injEq] at h
        exact .inl ⟨rfl, rfl, h.symm⟩
      | cons w ws =>
        simp only [hws, runWord] at h
        cases hd : decode w with
        | ok i =>
          rw [hd] at h
          exact .inr (.inl ⟨rfl, w, ws, i, rfl, hd, h⟩)
        | error e =>
          simp only [hd, execIllegal, Host.Outcome.next.injEq] at h
          exact .inr (.inr (.inl ⟨rfl, w, ws, e, rfl, hd, h.symm⟩))

/-- A step between commands runs the word that is presented. -/
theorem step_word {s : State} {w : CmdWord} {ws : List CmdWord} (hw : s.cfg.wf = true) (hq : s.seq = .idle)
    (hh : s.hostWords = w :: ws) : step s = runWord w { s with hostWords := ws } := by
  simp only [step, hw, if_true, State.continueCommand, hq, State.takeWord, hh]

/-- A step in ReadyWait is one ready poll. -/
theorem step_readyWait {s : State} {pcnt : Nat} (hw : s.cfg.wf = true) (hq : s.seq = .readyWait pcnt) :
    step s = .next (s.readyPoll pcnt) := by
  simp only [step, hw, if_true, State.continueCommand, hq]

/-- A step in TxDoneWait is one TX-done poll. -/
theorem step_txWait {s : State} {pcnt : Nat} (hw : s.cfg.wf = true) (hq : s.seq = .txWait pcnt) :
    step s = .next (s.txPoll pcnt) := by
  simp only [step, hw, if_true, State.continueCommand, hq]

end Sys2Proof.Machine
end

