-- ==== Sys2Proof/Tests/Slice0.lean ====
section
/-! SUPPORT. Tests of the model and witnesses of the statements. Expected values are those of
spec/95_test_vectors.md ("vector x.y" below is its section 2.x or program Px) or are worked out from the rule
named. The strobe, address and mask bytes of `cfg` are arbitrary: the spec leaves them open (D18). -/

namespace Sys2Proof.Tests

open Sys2Proof Sys2Proof.Machine

/-! ### A small machine -/

/-- MY_ADDR = 0x1234 and RX_BUF_SIZE = 128, the conventions of 95_test_vectors.md; the init table of P3. -/
def cfg : Config where
  myAddr := 0x1234
  initRom := [0x01, 0x34, 0x00]
  rxBufSize := 128
  sSidle := 0x36
  sStx := 0x35
  sSrx := 0x34
  sSftx := 0x3B
  sSfrx := 0x3A
  txfifoHdr := 0x7F
  rxoccAddr := 0xFB
  rxoccMask := 0xFF
  txdoneAddr := 0xF5
  txdoneMask := 0x1F
  readyAddr := 0xF0
  readyMask := 0x80
  readyValue := 0x00
  txPollUs := 100
  readyPollLimit := none
  txPollLimit := none

/-- The same with both poll limits. -/
def limited (l : Nat) : Config := { cfg with readyPollLimit := some l, txPollLimit := some l }

/-- Power-on of that machine. -/
def fresh : State := State.powerOn cfg

/-- After a RESET, TX_BUF holding the broadcast frame of vector 2.6, with the transceiver's next answers. -/
def armed (c : Config) (answers : List Byte) : State :=
  { State.powerOn c with
    drv := .rx, answers := answers, txBuf := [(0, 0x54), (1, 0x10), (2, 0x00), (3, 0x05)] }

/-- RX_BUF holding these bytes. -/
def received (bs : List Byte) : State := { fresh with rxBuf := Memory.writeBytes [] 0 bs }

/-- The state with this command presented. -/
def given (s : State) (i : Instr) : State := { s with hostWords := [encode i] }

/-- The outcome is a next state with this property. -/
def ends (o : Host.Outcome State Fault Refusal) (p : State → Bool) : Bool :=
  match o with
  | .next t => p t
  | .fault _ => false
  | .refused _ => false

/-- The next state of an outcome; the power-on state where there is none. -/
def nextOf (o : Host.Outcome State Fault Refusal) : State :=
  match o with
  | .next t => t
  | .fault _ => fresh
  | .refused _ => fresh

/-! ### Decoding: words written out from R52 to R54, and the vectors of 2.3 to 2.10 -/

-- OP 0001, RSV 0000, A 0x001234, B 0x000001, N 3 (vector 2.3).
theorem test_decode_encode : decode 0x1000123400000103 = .ok (.encode 0x1234 0x01 3) := by decide
-- OP 0010, A = B = 0, N 12 (P3 step 4).
theorem test_decode_decode : decode 0x200000000000000C = .ok (.decode 12) := by decide
-- OP 0011, all else 0 (vector 2.5).
theorem test_decode_reset : decode 0x3000000000000000 = .ok .reset := by decide
-- OP 0100, N 0x49 = 73 (vector 2.6).
theorem test_decode_send : decode 0x4000000000000049 = .ok (.send 73) := by decide
-- OP 0101, N 0x80 (vector 2.7).
theorem test_decode_receive : decode 0x5000000000000080 = .ok (.receive 128) := by decide
-- OP 0110, N 0xFF (vector 2.8).
theorem test_decode_readreg : decode 0x60000000000000FF = .ok (.readreg 0xFF) := by decide
-- OP 0111, A[1:0] = 2 (RX), B[7:0] = 0x03, N 0x12 (P1).
theorem test_decode_bufwr : decode 0x7000000200000312 = .ok (.bufwr .rx 3 0x12) := by decide
-- OP 1000, A[1:0] = 1 (TX), B[7:0] = 0x48 (vector 2.9).
theorem test_decode_bufrd : decode 0x8000000100004800 = .ok (.bufrd .tx 72) := by decide
-- Space 3 decodes, and ends with OperandError (vectors 2.9, 2.10).
theorem test_decode_reserved_space :
    decode 0x7000000300000000 = .ok (.bufwr .reserved 0 0) ∧ decode 0x8000000300000000 = .ok (.bufrd .reserved 0) := by
  decide

-- The illegal words of vector 2.10.
theorem test_decode_illegal :
    decode 0x0000000000000000 = .error .illegalOpcode ∧ decode 0x9000000000000000 = .error .illegalOpcode ∧
    decode 0xF123456789ABCDEF = .error .reservedNotZero ∧ decode 0x1100000000000000 = .error .reservedNotZero ∧
    decode 0x2000000000000109 = .error .mustBeZero ∧ decode 0x2000000100000009 = .error .mustBeZero ∧
    decode 0x3000000000000001 = .error .mustBeZero ∧ decode 0x7000000400000000 = .error .mustBeZero ∧
    decode 0x7000000000010000 = .error .mustBeZero ∧ decode 0x8000000000000001 = .error .mustBeZero := by
  decide

-- The words that the encoder writes (vectors 2.3, 2.9).
theorem test_encode_words :
    encode (.encode 0xFFFFFF 0xFFFFFF 1) = 0x10FFFFFFFFFFFF01 ∧ encode (.bufwr .rx 127 0x10) = 0x7000000200007F10 ∧
    encode (.bufrd .pay 5) = 0x8000000000000500 ∧ encode (.readreg 0x35) = 0x6000000000000035 := by
  decide

theorem test_decodeTableWord :
    decodeTableWord 64 0x4000000000000004 = some (.send 4) ∧ decodeTableWord 64 0x9000000000000000 = none := by
  decide

/-! ### WellFormed: each check refuses an ill-formed term -/

-- 73 ≤ RX_BUF_SIZE ≤ 256 (R10).
theorem test_wf_rxBufSize :
    ({ cfg with rxBufSize := 72 } : Config).wf = false ∧ ({ cfg with rxBufSize := 73 } : Config).wf = true ∧
    ({ cfg with rxBufSize := 256 } : Config).wf = true ∧ ({ cfg with rxBufSize := 257 } : Config).wf = false := by
  decide

-- INIT_ROM = 02 C0 "is refused before power-on" (vector 2.5); no terminator; empty.
theorem test_wf_initRom :
    ({ cfg with initRom := [0x02, 0xC0] } : Config).wf = false ∧
    ({ cfg with initRom := [0x01, 0xC0] } : Config).wf = false ∧ ({ cfg with initRom := [] } : Config).wf = false ∧
    ({ cfg with initRom := [0x00] } : Config).wf = true := by
  decide

-- A poll limit is none or at least 1 (R10).
theorem test_wf_limits :
    ({ cfg with readyPollLimit := some 0 } : Config).wf = false ∧
    ({ cfg with txPollLimit := some 0 } : Config).wf = false ∧ (limited 1).wf = true ∧ cfg.wf = true := by
  decide

theorem test_step_refuses_ill_formed :
    step (State.powerOn { cfg with rxBufSize := 72 }) = .refused .illFormedConfiguration := by
  rfl

-- "An operand that does not fit its field is an assembly error, not a word" (R69).
theorem test_assembler_refuses :
    assembleText "SEND 256" = none ∧ assembleText "ENCODE 0x1000000, 0, 0" = none ∧
    assembleText "BUFWR 4, 0, 0" = none ∧ assembleText "SENDPKT 0, 5, 65" = none := by
  decide

-- P1 steps 1 to 3, and SENDPKT of R70 for the frame of P2.
theorem test_assembler_words :
    assembleText "LOAD PAY, 0, 0xAA, 0xBB ; P1" = some [0x70000000000000AA, 0x70000000000001BB] ∧
    assembleText "SENDPKT 0, 5, 1" = some [0x1000000000000501, 0x4000000000000005] := by
  decide

/-! ### Init table (vector 2.5) -/

theorem test_init_records :
    initRecords [0x01, 0xC0, 0x02, 0xA1, 0xA2, 0x00] = some [[0xC0], [0xA1, 0xA2]] ∧
    initRecords [0x01, 0xC0, 0x00, 0xFF, 0xFF] = some [[0xC0]] ∧ initRecords [0x02, 0xC0] = none := by
  decide

/-! ### One step of each command -/

-- Vector 2.3, third and first rows, PAY_BUF[i] = 0xA0 + i.
theorem test_encode_row :
    ends (exec (.encode 0x1234 0x01 3) { fresh with payBuf := [(0, 0xA0), (1, 0xA1), (2, 0xA2)] }) (fun t =>
      t.memRead .tx 0 9 = ([0x54, 0x90, 0x03, 0x12, 0x34, 0x01, 0xA0, 0xA1, 0xA2] : List Byte) ∧ t.rData = 9 ∧ t.rStatus = 0x00) =
      true := by decide
theorem test_encode_overflow :
    ends (exec (.encode 0 5 65) fresh) (fun t => t.code = 2 ∧ t.rData = 0 ∧ t.txBuf = []) = true := by decide

-- Vector 2.4, DC25 and DC21.
theorem test_decode_non_minimal :
    ends (exec (.decode 7) (received [0x54, 0xA0, 0x00, 0x00, 0x00, 0x00, 0x07])) (fun t =>
      t.rTarget = 0 ∧ t.rSource = 7 ∧ t.rDab = 2 ∧ t.rSab = 2 ∧ t.rWlen = 0 ∧ t.rOff = 7 ∧ t.code = 0) = true := by
  decide
theorem test_decode_filter_before_payload :
    ends (exec (.decode 6) (received [0x54, 0x90, 0x03, 0x12, 0x35, 0x01])) (fun t => t.code = 1 ∧ t.rSource = 0) =
      true := by decide

-- Vector 2.5, RS2 (its first poll, not ready) and RS1.
theorem test_reset_waits :
    ends (exec .reset { fresh with answers := [0x80] }) (fun t =>
      t.seq = .readyWait 1 ∧ t.drv = .uninit ∧ t.hist = [.readReg 0xF0 0x80]) = true := by decide
theorem test_reset_ready :
    ends (exec .reset { fresh with answers := [0x0F] }) (fun t =>
      t.rStatus = 0x30 ∧ t.hist = [.readReg 0xF0 0x0F, .write [0x34]]) = true := by decide

-- Vector 2.6, SE1 and SE5.
theorem test_send_done :
    ends (exec (.send 4) (armed cfg [0x20])) (fun t =>
      t.rStatus = 0x30 ∧ t.hist = [.write [0x3B], .write [0x36], .write [0x7F, 0x54, 0x10, 0x00, 0x05], .write [0x35],
        .delay 100, .readReg 0xF5 0x20, .write [0x36], .write [0x34]]) = true := by decide
theorem test_send_uninit :
    ends (exec (.send 4) fresh) (fun t => t.rStatus = 0x07 ∧ t.hist = []) = true := by decide

-- Vector 2.7, RC5 and RC10.
theorem test_receive_one :
    ends (exec (.receive 1) (armed cfg [0x05, 0xAB])) (fun t =>
      t.rxBuf = [(0, 0xAB)] ∧ t.rData = 1 ∧ t.rStatus = 0x30 ∧ t.hist = [.readReg 0xFB 0x05, .readBurst 1 [0xAB],
        .write [0x36], .write [0x3A], .write [0x3B], .write [0x34]]) = true := by decide
theorem test_receive_uninit : ends (exec (.receive 64) fresh) (fun t => t.rStatus = 0x07) = true := by decide

-- Vector 2.8, first two rows.
theorem test_readreg :
    ends (exec (.readreg 0x35) (armed cfg [0x0D])) (fun t =>
      t.rData = 0x0D ∧ t.rStatus = 0x30 ∧ t.hist = [.readReg 0x35 0x0D]) = true := by decide
theorem test_readreg_uninit :
    ends (exec (.readreg 0x00) { fresh with answers := [0xFF] }) (fun t => t.rData = 0xFF ∧ t.rStatus = 0x00) = true := by
  decide

-- Vector 2.9.
theorem test_bufwr :
    ends (exec (.bufwr .tx 72 0x77) fresh) (fun t => t.txBuf = [(72, 0x77)] ∧ t.rData = 0 ∧ t.code = 0) = true := by decide
theorem test_bufwr_range :
    ends (exec (.bufwr .pay 64 0x01) fresh) (fun t => t.payBuf = [] ∧ t.code = 8) = true := by decide
theorem test_bufrd :
    ends (exec (.bufrd .tx 3) (armed cfg [])) (fun t => t.rData = 0x05 ∧ t.rStatus = 0x30) = true := by decide
theorem test_bufrd_range : ends (exec (.bufrd .rx 200) fresh) (fun t => t.rData = 0 ∧ t.code = 8) = true := by decide

-- The first step after reset runs the word placed for it.
theorem test_withFetchWord :
    ends (step (State.reset.withFetchWord 64 0x70000000000000AA)) (fun t => t.payBuf = [(0, 0xAA)] ∧ t.hostWords = []) =
      true := by decide

-- HDB2 and HDB1 fields of the vectors 2.4 (F0, 0B) and the address table of 2.1.
theorem test_pack_table :
    pack 0x1234 2 = [0x12, 0x34] ∧ pack 0 (abcSource 0) = [0x00] ∧ pack 0x100 2 = [0x01, 0x00] ∧
    pack 0xABCDEF 3 = [0xAB, 0xCD, 0xEF] ∧ unpack [0x12, 0x34] = 0x1234 := by decide

/-! ### Witnesses: for each statement with hypotheses, states and operands that meet all of them -/

theorem witness_DecodeInvertsEncode :
    Instr.wf (.encode 0xFFFFFF 0 255) = true ∧ Instr.wf (.bufwr .reserved 255 0) = true ∧ Instr.wf .reset = true := by
  decide

theorem witness_EncodeInvertsDecode : decode 0x10FFFFFFFFFFFFFF = .ok (.encode 0xFFFFFF 0xFFFFFF 255) := by decide

theorem witness_OpcodeRowsAreDisjoint :
    (⟨"RESET", 0x3000000000000000, 0xFFFFFFFFFFFFFFFF⟩ : OpRow) ∈ opTable ∧
    (⟨"RESET", 0x3000000000000000, 0xFFFFFFFFFFFFFFFF⟩ : OpRow).covers 0x3000000000000000 = true := by decide

-- Each clause of the illegal words, at its lowest bit: OP 0, OP 9, RSV, and a field marked 0 of each format.
theorem witness_IllegalWordsExactly :
    (0x0FFFFFFFFFFFFFFF : CmdWord) >>> 60 = 0 ∧ 9 ≤ ((0x9000000000000000 : CmdWord) >>> 60).toNat ∧
    ((0x1100000000000000 : CmdWord) >>> 56) &&& 0xF ≠ 0 ∧
    (((0x6000000000000100 : CmdWord) >>> 60).toNat ∈ [2, 4, 5, 6] ∧
      ((0x6000000000000100 : CmdWord) >>> 8) &&& 0xFFFFFFFFFFFF ≠ 0) ∧
    ((0x3000000000000001 : CmdWord) >>> 60 = 3 ∧ (0x3000000000000001 : CmdWord) &&& 0xFFFFFFFFFFFFFF ≠ 0) ∧
    ((0x7000000000010000 : CmdWord) >>> 60 = 7 ∧ ((0x7000000000010000 : CmdWord) >>> 16) &&& 0xFFFF ≠ 0) ∧
    ((0x8000000000000001 : CmdWord) >>> 60 = 8 ∧ (0x8000000000000001 : CmdWord) &&& 0xFF ≠ 0) := by
  decide

theorem witness_StepRunsTheDecodedCommand :
    (given fresh (.bufwr .pay 0 0xAA)).cfg.wf = true ∧ (given fresh (.bufwr .pay 0 0xAA)).seq = .idle ∧
    (given fresh (.bufwr .pay 0 0xAA)).hostWords = [0x70000000000000AA] ∧
    decode 0x70000000000000AA = .ok (.bufwr .pay 0 0xAA) := by decide

theorem witness_IllegalWordWritesOnlyStatus :
    ({ fresh with hostWords := [0x1100000000000000] } : State).cfg.wf = true ∧
    ({ fresh with hostWords := [0x1100000000000000] } : State).seq = .idle ∧
    decode 0x1100000000000000 = .error .reservedNotZero := by decide

theorem witness_BlockWaitsWithoutWord : fresh.cfg.wf = true ∧ fresh.seq = .idle ∧ fresh.hostWords = [] := by decide

theorem witness_StepStopsExactlyOnIllFormedConfiguration :
    fresh.cfg.wf = true ∧ (State.powerOn { cfg with rxBufSize := 257 }).cfg.wf = false := by decide

theorem witness_BusyBlockTakesNoWord :
    ∃ t, ({ fresh with seq := .readyWait 1 } : State).seq ≠ .idle ∧
      step { fresh with seq := .readyWait 1 } = .next t := ⟨_, by decide, rfl⟩

theorem witness_ConfigurationNeverChanges : ∃ t, step (given fresh .reset) = .next t := ⟨_, rfl⟩

theorem witness_HistoryOnlyGrows : ∃ t, step (given (armed cfg [0x02, 0xAA, 0xBB]) (.receive 2)) = .next t := ⟨_, rfl⟩

theorem witness_FailedCommandWritesOnlyStatus :
    ∃ t, (given fresh (.send 4)).seq = .idle ∧ step (given fresh (.send 4)) = .next t ∧ t.seq = .idle ∧
      t.code ≠ Status.ok.code ∧ t.code ≠ Status.chipNotReady.code := by
  refine ⟨_, rfl, rfl, ?_, ?_, ?_⟩ <;> decide

-- A wait that ends so, in RESET's first poll, in a later poll of RESET and in a poll of SEND.
theorem witness_ChipNotReadyLeavesUninit :
    (ends (step (given { State.powerOn (limited 1) with answers := [0x80] } .reset)) fun t =>
      t.seq = .idle ∧ t.code = Status.chipNotReady.code) = true ∧
    (ends (step { State.powerOn (limited 2) with seq := .readyWait 1, answers := [0x80] }) fun t =>
      t.seq = .idle ∧ t.code = Status.chipNotReady.code) = true ∧
    (ends (step { State.powerOn (limited 2) with seq := .txWait 1, drv := .tx, answers := [0x01] }) fun t =>
      t.seq = .idle ∧ t.code = Status.chipNotReady.code) = true := by decide

/-- Power-on of `cfg`, the last byte of RX_BUF about to be written. -/
def writing : State := given fresh (.bufwr .rx 127 0x10)

/-- It meets the invariant. -/
theorem writing_inv : Inv writing where
  cfgOk := by decide
  myAddrOk := by decide
  selOk := by decide
  codeOk := by decide
  payOk := by decide
  txOk := by decide
  rxOk := by decide
  seqOk := .inl rfl
  parsedOk := .inl (by decide)
  targetOk := by decide
  targetFits := by decide
  sourceFits := by decide
  histOk := by decide

theorem witness_PowerOnMeetsInvariant : cfg.wf = true ∧ (limited 1).wf = true := by decide

theorem witness_EveryStepKeepsInvariant : ∃ s t, Inv s ∧ step s = .next t :=
  ⟨writing, _, writing_inv, rfl⟩

-- Every clause: a step from the invariant, every command, and a wait that ends.
theorem witness_DriverRestsUninitOrRx :
    (∃ s t, Inv s ∧ step s = .next t ∧ t.seq = .idle) ∧
    (ends (exec .reset { fresh with answers := [0x00] }) fun t => t.seq = .idle) = true ∧
    (ends (exec (.send 4) (armed (limited 1) [0x01])) fun t => t.seq = .idle ∧ t.code = 6) = true ∧
    (ends (exec (.receive 0) fresh) fun t => t.seq = .idle) = true ∧
    (ends (exec (.encode 0 5 64) fresh) fun t => t.seq = .idle) = true ∧
    (ends (step { fresh with seq := .txWait 1, drv := .tx, answers := [0x20] }) fun t => t.seq = .idle) = true :=
  ⟨⟨writing, _, writing_inv, rfl, rfl⟩, by decide, by decide, by decide, by decide, by decide⟩

/-- `cfg` meets the conditions of log 13. -/
theorem cfg_halfDuplexOk : cfg.halfDuplexOk := ⟨by decide, [[0x34]], by decide, by decide, by decide⟩

theorem witness_EveryStepKeepsHalfDuplex :
    ∃ t, (given (armed cfg [0x20]) (.send 4)).cfg.halfDuplexOk ∧
      ({ armed cfg [0x20] with hist := [.write [0x34]], hostWords := [encode (.send 4)] } : State).halfDuplex ∧
      step { armed cfg [0x20] with hist := [.write [0x34]], hostWords := [encode (.send 4)] } = .next t :=
  ⟨_, cfg_halfDuplexOk, ⟨by decide, by decide⟩, rfl⟩

-- The boundaries of R71 (vector 2.1).
theorem witness_AddressByteCountIsLeast :
    abc 0 = 0 ∧ abc 1 = 1 ∧ abc 0xFF = 1 ∧ abc 0x100 = 2 ∧ abc 0xFFFF = 2 ∧ abc 0x10000 = 3 ∧ abc 0xFFFFFF = 3 ∧
    abcSource 0 = 1 ∧ (0xFFFF : Addr).toNat < 2 ^ (8 * 2) := by decide

theorem witness_PackedBytesMostSignificantFirst : abc 0x1234 ≤ 2 ∧ abc 0x1234 ≤ 3 ∧ abc 0xFFFFFF ≤ 3 ∧ abc 0 ≤ 0 := by
  decide

theorem witness_UnpackInvertsPack : abc 0x05 ≤ 2 ∧ ([0x00, 0x05] : List Byte).length ≤ 3 := by decide

-- The boundaries of R74 (vector 2.2).
theorem witness_LengthBucketsRoundUp :
    lenCode 0 = some (0, 0) ∧ lenCode 8 = some (8, 8) ∧ lenCode 9 = some (9, 16) ∧ lenCode 16 = some (9, 16) ∧
    lenCode 17 = some (10, 32) ∧ lenCode 32 = some (10, 32) ∧ lenCode 33 = some (11, 64) ∧
    lenCode 64 = some (11, 64) ∧ lenCode 65 = none ∧ wireLen 8 = some 8 ∧ wireLen 11 = some 64 ∧ wireLen 12 = none := by
  decide

theorem witness_EncodeWritesTheFrame :
    lenCode (64 : Byte).toNat = some (11, 64) ∧ lenCode (9 : Byte).toNat = some (9, 16) ∧
    lenCode (0 : Byte).toNat = some (0, 0) := by decide

theorem witness_EncodeOverflowWritesOnlyStatus : 64 < (65 : Byte).toNat ∧ 64 < (255 : Byte).toNat := by decide

theorem witness_EncodedFramePassesHeaderChecks :
    ∃ s', (64 : Byte).toNat ≤ 64 ∧ exec (.encode 0xABCDEF 0x123456 64) fresh = .next s' := ⟨_, by decide, rfl⟩

-- Each test of R78 fails first somewhere (vector 2.4: DC30, DC3, DC4, DC7, DC9, DC13, DC14, DC20, DC21, DC22, DC23).
theorem witness_DecodeStatusInSpecOrder :
    Spec.decodeStatus 128 0x1234 129 (fresh.readByte .rx) = .operandError ∧
    Spec.decodeStatus 128 0x1234 2 ((received [0x54, 0x90]).readByte .rx) = .truncated ∧
    Spec.decodeStatus 128 0x1234 3 ((received [0x55, 0x10, 0x00]).readByte .rx) = .invalidSync ∧
    Spec.decodeStatus 128 0x1234 4 ((received [0x54, 0x14, 0x00, 0x05]).readByte .rx) = .invalidHeader ∧
    Spec.decodeStatus 128 0x1234 3 ((received [0x54, 0x00, 0x00]).readByte .rx) = .invalidHeader ∧
    Spec.decodeStatus 128 0x1234 4 ((received [0x54, 0x10, 0x0F, 0x05]).readByte .rx) = .invalidHeader ∧
    Spec.decodeStatus 128 0x1234 4 ((received [0x54, 0x10, 0x0C, 0x05]).readByte .rx) = .invalidHeader ∧
    Spec.decodeStatus 128 0x1234 4 ((received [0x54, 0x90, 0x03, 0x12]).readByte .rx) = .truncated ∧
    Spec.decodeStatus 128 0x1234 6 ((received [0x54, 0x90, 0x03, 0x12, 0x35, 0x01]).readByte .rx) = .notForUs ∧
    Spec.decodeStatus 128 0x1234 8
      ((received [0x54, 0x90, 0x03, 0x12, 0x34, 0x01, 0xAA, 0xBB]).readByte .rx) = .truncated := by decide

/-- The frame of DC23. -/
def frameDC23 : State := received [0x54, 0x90, 0x03, 0x12, 0x34, 0x01, 0xAA, 0xBB, 0xCC]

theorem witness_DecodeWritesTheResults :
    Spec.decodeStatus frameDC23.cfg.rxBufSize frameDC23.myAddr (9 : Byte).toNat (frameDC23.readByte .rx) = .ok := by
  decide

-- The target is MY_ADDR, is foreign, and is 0 (DC23, DC19, DC17).
theorem witness_AddressFilterIsExact :
    (0x1234 = Spec.addressAt (frameDC23.readByte .rx) 3 (Spec.dab (frameDC23.readByte .rx 1)) ∧
      Spec.decodeStatus 128 0x1234 9 (frameDC23.readByte .rx) = .ok) ∧
    (let s := received [0x54, 0x50, 0x00, 0x34, 0x05]
     0x34 = Spec.addressAt (s.readByte .rx) 3 (Spec.dab (s.readByte .rx 1)) ∧
      Spec.decodeStatus 128 0x34 5 (s.readByte .rx) = .ok) ∧
    (let s := received [0x54, 0x10, 0x00, 0x05]
     0 = Spec.addressAt (s.readByte .rx) 3 (Spec.dab (s.readByte .rx 1)) ∧
      Spec.decodeStatus 128 0 4 (s.readByte .rx) = .ok) := by decide

theorem witness_DecodeDependsOnlyOnValidBytes :
    frameDC23.myAddr = ({ frameDC23 with txBuf := [(0, 1)], code := 9 } : State).myAddr ∧
    (∀ i, i < (9 : Byte).toNat →
      frameDC23.readByte .rx i = ({ frameDC23 with txBuf := [(0, 1)], code := 9 } : State).readByte .rx i) ∧
    (ends (exec (.decode 9) frameDC23) fun t => t.code = Status.ok.code) = true :=
  ⟨rfl, fun _ _ => rfl, by decide⟩

/-- What ENCODE 0x1234, 1, 1 leaves, and RX_BUF with its frame. -/
def encoded : State := nextOf (exec (.encode 0x1234 0x01 1) { fresh with payBuf := [(0, 0xAA)] })

theorem witness_CodecRoundTrip :
    (1 : Byte).toNat ≤ 64 ∧ exec (.encode 0x1234 0x01 1) { fresh with payBuf := [(0, 0xAA)] } = .next encoded ∧
    73 ≤ fresh.cfg.rxBufSize ∧
    (∀ i, i < encoded.rData.toNat →
      ({ fresh with rxBuf := encoded.txBuf } : State).readByte .rx i = encoded.readByte .tx i) ∧
    (0x1234 : Addr) = ({ fresh with rxBuf := encoded.txBuf } : State).myAddr ∧
    (0x1234 : Addr) ≠ 0 ∧ (0x1234 : Addr) ≠ ({ fresh with myAddr := 0x1235 } : State).myAddr :=
  ⟨by decide, rfl, by decide, by decide, by decide, by decide, by decide⟩

theorem witness_InitTableWalkReadsItsFormat :
    (∀ r ∈ ([[0xC0], [0xA1, 0xA2]] : List (List Byte)), 1 ≤ r.length ∧ r.length ≤ 255) ∧
    initRecords [0x01, 0xC0, 0x00, 0xFF] = some [[0xC0]] ∧ initRecords [0x00, 0xFF] = some [] := by decide

theorem witness_ResetCompletesWhenReady :
    initRecords ({ fresh with answers := [0x7F] } : State).cfg.initRom = some [[0x34]] ∧
    Spec.readyAt { fresh with answers := [0x7F] } 0 := ⟨by decide, by unfold Spec.readyAt; decide⟩

/-- RESET presented, the chip not ready twice and then ready. -/
def resetting (c : Config) : State := given { State.powerOn c with answers := [0x80, 0xFF, 0x00] } .reset

theorem witness_ResetEndsAtFirstReadyPoll :
    Spec.Presents (resetting (limited 3)) .reset [] ∧ initRecords (resetting (limited 3)).cfg.initRom = some [[0x34]] ∧
    (∀ j, j < 2 → ¬ Spec.readyAt (resetting (limited 3)) j) ∧ Spec.readyAt (resetting (limited 3)) 2 ∧
    (∀ l, (resetting (limited 3)).cfg.readyPollLimit = some l → 2 < l) := by
  refine ⟨⟨by decide, rfl, rfl⟩, by decide, ?_, ?_, ?_⟩
  · unfold Spec.readyAt; decide
  · unfold Spec.readyAt; decide
  · intro l h; cases h; decide

theorem witness_ResetNeverReadyNeverEnds :
    Spec.Presents (resetting cfg) .reset [] ∧ (resetting cfg).cfg.readyPollLimit = none ∧
    (∀ j, j ≤ 1 → ¬ Spec.readyAt (resetting cfg) j) := by
  refine ⟨⟨by decide, rfl, rfl⟩, rfl, ?_⟩
  unfold Spec.readyAt; decide

theorem witness_ResetPollLimitGivesChipNotReady :
    Spec.Presents (resetting (limited 2)) .reset [] ∧ (resetting (limited 2)).cfg.readyPollLimit = some 2 ∧
    (∀ j, j < 2 → ¬ Spec.readyAt (resetting (limited 2)) j) := by
  refine ⟨⟨by decide, rfl, rfl⟩, rfl, ?_⟩
  unfold Spec.readyAt; decide

-- Both ends of the operand's range (R94).
theorem witness_SendCompletesWhenDone :
    1 ≤ (1 : Byte).toNat ∧ (73 : Byte).toNat ≤ 73 ∧ (armed cfg [0x20]).drv = .rx ∧ Spec.doneAt (armed cfg [0x20]) 0 :=
  ⟨by decide, by decide, rfl, by unfold Spec.doneAt; decide⟩

/-- SEND 4 presented, the chip busy twice and then done. -/
def sending (c : Config) : State := given (armed c [0x01, 0x1F, 0x20]) (.send 4)

theorem witness_SendEndsAtFirstDonePoll :
    Spec.Presents (sending (limited 3)) (.send 4) [] ∧ 1 ≤ (4 : Byte).toNat ∧ (4 : Byte).toNat ≤ 73 ∧
    (sending (limited 3)).drv = .rx ∧ (∀ j, j < 2 → ¬ Spec.doneAt (sending (limited 3)) j) ∧
    Spec.doneAt (sending (limited 3)) 2 ∧ (∀ l, (sending (limited 3)).cfg.txPollLimit = some l → 2 < l) := by
  refine ⟨⟨by decide, rfl, rfl⟩, by decide, by decide, rfl, ?_, ?_, ?_⟩
  · unfold Spec.doneAt; decide
  · unfold Spec.doneAt; decide
  · intro l h; cases h; decide

theorem witness_SendNeverDoneNeverEnds :
    Spec.Presents (sending cfg) (.send 4) [] ∧ (4 : Byte).toNat ≤ 73 ∧ (sending cfg).drv = .rx ∧
    (sending cfg).cfg.txPollLimit = none ∧ (∀ j, j ≤ 1 → ¬ Spec.doneAt (sending cfg) j) := by
  refine ⟨⟨by decide, rfl, rfl⟩, by decide, rfl, rfl, ?_⟩
  unfold Spec.doneAt; decide

theorem witness_SendPollLimitGivesChipNotReady :
    Spec.Presents (sending (limited 2)) (.send 4) [] ∧ (4 : Byte).toNat ≤ 73 ∧ (sending (limited 2)).drv = .rx ∧
    (sending (limited 2)).cfg.txPollLimit = some 2 ∧ (∀ j, j < 2 → ¬ Spec.doneAt (sending (limited 2)) j) := by
  refine ⟨⟨by decide, rfl, rfl⟩, by decide, rfl, rfl, ?_⟩
  unfold Spec.doneAt; decide

theorem witness_SendReceiveOperandErrors :
    73 < (74 : Byte).toNat ∧ fresh.cfg.rxBufSize < (129 : Byte).toNat ∧ (0 : Byte) = 0 := by decide

theorem witness_DriverStateGatesOnlySendAndReceive :
    1 ≤ (1 : Byte).toNat ∧ (73 : Byte).toNat ≤ 73 ∧ (128 : Byte).toNat ≤ fresh.cfg.rxBufSize ∧ fresh.drv ≠ .rx ∧
    (∃ t, exec (.readreg 0) fresh = .next t) ∧ Instr.mnemonic (.encode 0 5 0) ∈ ["ENCODE", "DECODE", "BUFWR", "BUFRD"] ∧
    (∃ t, exec (.encode 0 5 0) fresh = .next t) :=
  ⟨by decide, by decide, by decide, by decide, ⟨_, rfl⟩, by decide, ⟨_, rfl⟩⟩

-- SEND that ends at its first poll, and at a later one.
theorem witness_SendLeavesChipRxArmed :
    Spec.Presents (given (armed cfg [0x20]) (.send 4)) (.send 4) [] ∧
    (ends (step (given (armed cfg [0x20]) (.send 4))) fun t => t.seq = .idle ∧ t.code = Status.ok.code) = true ∧
    (ends (step { fresh with seq := .txWait 1, drv := .tx, answers := [0x20] }) fun t =>
      t.seq = .idle ∧ t.code = Status.ok.code) = true ∧
    1 ≤ (1 : Byte).toNat ∧ (128 : Byte).toNat ≤ cfg.rxBufSize :=
  ⟨⟨by decide, rfl, rfl⟩, by decide, by decide, by decide, by decide⟩

-- Occupancy below and above the capacity, and the ends of the capacity's range (RC2, RC3, RC4, RC5).
theorem witness_ReceiveStoresTheBurst :
    (armed cfg [0x09]).drv = .rx ∧ 9 = min ((armed cfg [0x09]).answer &&& 0xFF).toNat (64 : Byte).toNat ∧
    64 = min ((armed cfg [0x64]).answer &&& 0xFF).toNat (64 : Byte).toNat ∧
    128 = min ((armed cfg [0xFF]).answer &&& 0xFF).toNat (128 : Byte).toNat ∧
    1 = min ((armed cfg [0x05]).answer &&& 0xFF).toNat (1 : Byte).toNat ∧
    (128 : Byte).toNat ≤ (armed cfg [0xFF]).cfg.rxBufSize := by decide

theorem witness_ReceiveEmptyTouchesNoFifo :
    (armed cfg [0x00]).drv = .rx ∧ 1 ≤ (64 : Byte).toNat ∧ (64 : Byte).toNat ≤ (armed cfg [0x00]).cfg.rxBufSize ∧
    (armed cfg [0x00]).answer &&& (armed cfg [0x00]).cfg.rxoccMask = 0 := by decide

-- The last byte of each buffer (vector 2.9).
theorem witness_BufwrWritesOneByte :
    spaceOf .pay = some .pay ∧ (63 : Byte).toNat < fresh.sizeOf .pay ∧ (72 : Byte).toNat < fresh.sizeOf .tx ∧
    (127 : Byte).toNat < fresh.sizeOf .rx := by decide

theorem witness_BufrdReadsOneByte :
    spaceOf .rx = some .rx ∧ (0 : Byte).toNat < fresh.sizeOf .rx ∧ (127 : Byte).toNat < fresh.sizeOf .rx := by decide

-- The first byte past each buffer (vector 2.9).
theorem witness_BufferOperandErrors :
    fresh.sizeOf .pay ≤ (64 : Byte).toNat ∧ fresh.sizeOf .tx ≤ (73 : Byte).toNat ∧
    fresh.sizeOf .rx ≤ (128 : Byte).toNat := by decide

theorem witness_BufwrIsSeenByBufrd :
    ∃ t, spaceOf .tx = some .tx ∧ (72 : Byte).toNat < fresh.sizeOf .tx ∧ exec (.bufwr .tx 72 0x77) fresh = .next t :=
  ⟨_, rfl, by decide, rfl⟩

theorem witness_HostReadsEveryRegister :
    fresh.seq = .idle ∧ 9 ≤ (9 : BitVec 4).toNat ∧ 9 ≤ (15 : BitVec 4).toNat := by decide

theorem witness_AssemblerGivesLegalWords :
    assembleText "ENCODE 0x1234, 0x01, 3" = some [0x1000123400000103] := by decide

theorem witness_SendpktSendsTheEncodedFrame : (0 : Byte).toNat ≤ 64 ∧ (64 : Byte).toNat ≤ 64 := by decide

end Sys2Proof.Tests
end

/-! The scope family (00_scope.md): when a step exists (O10), and the invariant at power-on (O17). -/

namespace Sys2Proof.Machine

/-! ### What a step answers -/

/-- Every command word ends in a next state, legal or not (R102, R120). -/
theorem runWord_next (w : CmdWord) (s : State) : ∃ t, runWord w s = .next t := by
  unfold runWord
  cases decode w with
  | ok i => exact exec_next i s
  | error e => exact ⟨s.raise .illegalCommand, rfl⟩

/-- A step between commands with no word presented waits (R122; log 2). -/
theorem step_noWord {s : State} (hw : s.cfg.wf = true) (hq : s.seq = .idle) (hh : s.hostWords = []) :
    step s = .next s := by
  simp only [step, hw, if_true, State.continueCommand, hq, State.takeWord, hh]

/-- A machine with an ill-formed configuration has no step (R10). -/
theorem step_illFormed {s : State} (hw : s.cfg.wf = false) : step s = .refused .illFormedConfiguration := by
  simp [step, hw]

/-- A machine with a well-formed configuration always has a next state (R120): a wait polls once more, and
between commands the block runs the next word or waits for one. -/
theorem step_next {s : State} (hw : s.cfg.wf = true) : ∃ t, step s = .next t := by
  cases hq : s.seq with
  | readyWait pcnt => exact ⟨s.readyPoll pcnt, step_readyWait hw hq⟩
  | txWait pcnt => exact ⟨s.txPoll pcnt, step_txWait hw hq⟩
  | idle =>
    cases hh : s.hostWords with
    | nil => exact ⟨s, step_noWord hw hq hh⟩
    | cons w ws =>
      rw [step_word hw hq hh]
      exact runWord_next w { s with hostWords := ws }

/-- Settles O10: `step_next` for a well-formed configuration, `step_illFormed` for an ill-formed one. -/
theorem stepStopsExactlyOnIllFormedConfiguration : Obligations.StepStopsExactlyOnIllFormedConfiguration :=
  fun _ => ⟨step_next, step_illFormed⟩

/-! ### Power-on -/

/-- A buffer in which nothing has been written is in canonical form, whatever its size (log 14). -/
theorem Memory.wf_nil (size : Nat) : Memory.wf size [] := by simp [Memory.wf]

/-- The invariant after power-on: every register is 0, so the decode results are those of power-on, and the
buffers and HIST are empty (R33). -/
theorem inv_powerOn {c : Config} (hc : c.wf = true) : Inv (State.powerOn c) where
  cfgOk := hc
  myAddrOk := rfl
  selOk := rfl
  codeOk := Nat.zero_le 9
  payOk := Memory.wf_nil Config.maxPayload
  txOk := Memory.wf_nil Config.maxFrame
  rxOk := Memory.wf_nil c.rxBufSize
  seqOk := .inl rfl
  parsedOk := .inl ⟨rfl, rfl, rfl, rfl⟩
  targetOk := .inl rfl
  targetFits := Nat.one_pos
  sourceFits := Nat.one_pos
  histOk := by simp [State.powerOn]

/-- An init table of one record of one byte is well formed, whatever the byte (R67). -/
theorem initRecords_oneByteRecord (b : Byte) : initRecords [0x01, b, 0x00] = some [[b]] := rfl

/-- The configuration of `State.reset` is well formed, whatever its free parameters are (log 5, log 6). -/
theorem atReset_wf : Config.atReset.wf = true := by
  have hrecs : initRecords Config.atReset.initRom = some [[Config.openSrx]] := initRecords_oneByteRecord _
  have hrom : Config.atReset.initRomOk = true := by
    rw [Config.initRomOk, hrecs]
    rfl
  have hrx : Config.atReset.rxBufSizeOk = true := by decide
  rw [Config.wf, hrx, hrom]
  rfl

/-- Settles O17: `inv_powerOn`, and for `State.reset` with the configuration of log 5. -/
theorem powerOnMeetsInvariant : Obligations.PowerOnMeetsInvariant :=
  ⟨fun _ => inv_powerOn, inv_powerOn atReset_wf⟩

end Sys2Proof.Machine

/-! The state family (10_state.md): power-on (O16), the host's view of the registers (O53, O54), what every
step leaves unchanged (O12), how HIST grows (O13), ChipNotReady (O15), and the block's invariant (O18). -/

namespace Sys2Proof.Machine

/-! ### Power-on and the host read port -/

/-- A buffer byte that nothing has written is its power-on draw (R33; log 4). -/
theorem State.readByte_of_cells_nil {s : State} {sp : Space} (h : s.cells sp = []) (i : Nat) :
    s.readByte sp i = Config.powerOnByte sp i := by
  simp [State.readByte, h, Memory.byteAt]

/-- Power-on writes no buffer byte (R33). -/
theorem State.cells_powerOn (c : Config) (sp : Space) : (State.powerOn c).cells sp = [] := by
  cases sp <;> rfl

/-- R_STATUS after power-on: CODE 0 and DRV_STATE = UNINIT (R33). -/
theorem State.rStatus_powerOn (c : Config) : (State.powerOn c).rStatus = 0 := by
  simp [State.rStatus, State.powerOn, DrvState.bits]

/-- Settles O16: the registers are those of `State.powerOn`, and no buffer byte has been written. -/
theorem powerOnResetState : Obligations.PowerOnResetState := fun c =>
  ⟨State.rStatus_powerOn c, rfl, rfl, rfl, rfl, rfl, rfl, rfl, rfl, rfl, rfl, rfl, rfl,
    fun sp => State.readByte_of_cells_nil (State.cells_powerOn c sp)⟩

/-- Between commands the host read port answers (R32, R113). -/
theorem State.hostRead_idle {s : State} (h : s.seq = .idle) (num : BitVec 4) :
    s.hostRead num = some (s.hostReg num) := if_pos h

/-- The register numbers 9 to 15 are reserved and read 0 (R32). -/
theorem State.hostReg_reserved (s : State) {num : BitVec 4} (h : 9 ≤ num.toNat) : s.hostReg num = 0 := by
  unfold State.hostReg
  split
  case h_10 => rfl
  all_goals omega

/-- Settles O53: registers 0 to 8 by `State.hostReg`'s own rows, the others by `State.hostReg_reserved`. -/
theorem hostReadsEveryRegister : Obligations.HostReadsEveryRegister := by
  intro s hq
  simp only [State.hostRead_idle hq, Option.some.injEq]
  exact ⟨rfl, rfl, rfl, rfl, rfl, rfl, rfl, rfl, rfl, fun _ => s.hostReg_reserved⟩

/-- The fields of a register built as R18 builds R_STATUS: two bits above four. -/
theorem statusFields (d : BitVec 2) (c : BitVec 4) :
    ((d.setWidth 8 <<< 4) ||| c.setWidth 8).extractLsb' 0 4 = c ∧
    ((d.setWidth 8 <<< 4) ||| c.setWidth 8).extractLsb' 4 2 = d ∧
    ((d.setWidth 8 <<< 4) ||| c.setWidth 8).extractLsb' 6 2 = 0 := by
  revert d c
  decide

/-- Settles O54: `statusFields` for DRV_STATE and CODE, and R27's table. -/
theorem statusRegisterFields : Obligations.StatusRegisterFields := by
  intro s
  obtain ⟨hcode, hdrv, hzero⟩ := statusFields s.drv.bits s.code
  exact ⟨hcode, hdrv, hzero, rfl, rfl, rfl, rfl⟩

/-! ### What every command does on the transport

One relation says it for every operation: which events it adds to HIST, how many answers it takes, and that it
touches neither the configuration nor MY_ADDR. -/

/-- From `s` to `t` the block issues the transport events `es`, which answer `k` bytes (R30, R44). -/
structure Transacts (s t : State) (es : List Event) (k : Nat) : Prop where
  /-- The configuration is fixed (R35). -/
  cfg : t.cfg = s.cfg
  /-- MY_ADDR is fixed (R26). -/
  myAddr : t.myAddr = s.myAddr
  /-- Every transaction deasserts the select line at its end (R28). -/
  sel : s.selN = 1 → t.selN = 1
  /-- HIST grows at its end (R30). -/
  hist : t.hist = s.hist ++ es
  /-- The answers a claim has named are taken in order (log 3). -/
  answers : t.answers = s.answers.drop k
  /-- Each answered byte is one draw (R44). -/
  draws : t.draws = s.draws + k
  /-- The events hold the answered bytes, in order (R83, R84). -/
  answered : es.flatMap Spec.answered = s.answerBytes k
  /-- Only legal events are issued (R82, R84, R132). -/
  legal : ∀ e ∈ es, e.legal = true

/-- One answer is one byte. -/
theorem State.answerBytes_one (s : State) : s.answerBytes 1 = [s.answer] := rfl

/-- The next answers depend on the model's two input fields alone (log 3). -/
theorem State.answerBytes_congr {s t : State} (ha : t.answers = s.answers) (hd : t.draws = s.draws) (k : Nat) :
    t.answerBytes k = s.answerBytes k :=
  List.map_congr_left fun j _ => State.answerAt_congr ha hd j

/-- An operation that leaves the transport alone issues nothing. -/
theorem Transacts.silent {s t : State} (cfg : t.cfg = s.cfg) (myAddr : t.myAddr = s.myAddr)
    (sel : t.selN = s.selN) (hist : t.hist = s.hist) (answers : t.answers = s.answers)
    (draws : t.draws = s.draws) : Transacts s t [] 0 where
  cfg := cfg
  myAddr := myAddr
  sel := fun h => sel.trans h
  hist := by simpa using hist
  answers := by simpa using answers
  draws := by simpa using draws
  answered := rfl
  legal := by simp

/-- Operations in a row issue their events in a row. -/
theorem Transacts.trans {s t u : State} {es es' : List Event} {k l : Nat} (h : Transacts s t es k)
    (h' : Transacts t u es' l) : Transacts s u (es ++ es') (k + l) where
  cfg := h'.cfg.trans h.cfg
  myAddr := h'.myAddr.trans h.myAddr
  sel := fun hs => h'.sel (h.sel hs)
  hist := by rw [h'.hist, h.hist, List.append_assoc]
  answers := by rw [h'.answers, h.answers, List.drop_drop]
  draws := by rw [h'.draws, h.draws, Nat.add_assoc]
  answered := by
    rw [List.flatMap_append, h.answered, h'.answered, State.answerBytes_add,
      State.answerBytes_congr (t := t) (s := s.tookAnswers k) h.answers h.draws]
  legal := by
    intro e he
    rcases List.mem_append.1 he with he | he
    · exact h.legal e he
    · exact h'.legal e he

/-- A command that ends at once with a status issues nothing (R110). -/
theorem Transacts.raise (s : State) (e : Status) : Transacts s (s.raise e) [] 0 :=
  .silent rfl rfl rfl rfl rfl rfl

/-- A buffer write issues nothing (R12, D30). -/
theorem Transacts.memWrite (s : State) (sp : Space) (i : Nat) (bs : List Byte) :
    Transacts s (s.memWrite sp i bs) [] 0 :=
  .silent (by simp) (by simp) (by simp) (by simp) (by simp) (by simp)

/-- Write transactions are legal when each has a byte to write, and take no answer (R82). -/
theorem Transacts.writes {s t : State} {bss : List (List Byte)} (hbss : ∀ bs ∈ bss, bs ≠ [])
    (cfg : t.cfg = s.cfg) (myAddr : t.myAddr = s.myAddr) (sel : t.selN = 1)
    (hist : t.hist = s.hist ++ bss.map Event.write) (answers : t.answers = s.answers)
    (draws : t.draws = s.draws) : Transacts s t (bss.map Event.write) 0 where
  cfg := cfg
  myAddr := myAddr
  sel := fun _ => sel
  hist := hist
  answers := by simpa using answers
  draws := by simpa using draws
  answered := by simp [List.flatMap_map, Spec.answered, State.answerBytes]
  legal := by simpa [Event.legal] using hbss

/-- A register read is one event and takes one answer (R83). -/
theorem Transacts.xReadReg (s : State) (a : Byte) : Transacts s (s.xReadReg a) [.readReg a s.answer] 1 where
  cfg := by simp
  myAddr := by simp
  sel := by simp
  hist := by simp
  answers := by simp
  draws := by simp
  answered := by simp [Spec.answered, State.answerBytes_one]
  legal := by simp [Event.legal]

/-- A burst read of 1 to 255 bytes is one legal event and takes as many answers (R84, R132). -/
theorem Transacts.xReadBurst (s : State) {k : Nat} (h1 : 1 ≤ k) (h255 : k ≤ 255) :
    Transacts s (s.xReadBurst k) [.readBurst k (s.answerBytes k)] k where
  cfg := by simp
  myAddr := by simp
  sel := by simp
  hist := by simp
  answers := by simp
  draws := by simp
  answered := by simp [Spec.answered]
  legal := by simp [Event.legal, h1, h255]

/-- A delay is one event and no transaction (R86). -/
theorem Transacts.delay (s : State) (us : Nat) : Transacts s (s.delay us) [.delay us] 0 where
  cfg := by simp
  myAddr := by simp
  sel := by simp
  hist := by simp
  answers := by simp
  draws := by simp
  answered := rfl
  legal := by simp [Event.legal]

/-- The walk of an init table gives no empty record: a length byte 0 is the terminator (R67, R92). -/
theorem initWalk_ne_nil {rom : List Byte} {turns itp : Nat} {records : List (List Byte)}
    (h : initWalk rom turns itp = some records) : ∀ r ∈ records, r ≠ [] := by
  induction turns generalizing itp records with
  | zero => simp [initWalk] at h
  | succ turns ih =>
    simp only [initWalk] at h
    split at h
    · simp at h
    · rename_i n _
      split_ifs at h with hn hlen
      · simp_all
      · obtain ⟨rest, hrest, rfl⟩ := Option.map_eq_some_iff.1 h
        have hpos : 0 < n.toNat := by
          rcases Nat.eq_zero_or_pos n.toNat with h0 | h0
          · exact absurd (BitVec.eq_of_toNat_eq h0) hn
          · exact h0
        intro r hr
        rcases List.mem_cons.1 hr with rfl | hr
        · rw [← List.length_pos_iff, List.length_take, List.length_drop]
          omega
        · exact ih hrest r hr

/-- No record that RESET sends is empty (R67). -/
theorem initRecords_ne_nil (rom : List Byte) : ∀ r ∈ (initRecords rom).getD [], r ≠ [] := by
  cases h : initRecords rom with
  | none => simp
  | some records => exact initWalk_ne_nil h

/-- One ready poll, and on ready the rest of RESET: a register read, then the records of INIT_ROM (R90, R93). -/
theorem State.readyPoll_transacts (s : State) (pcnt : Nat) : ∃ es k, Transacts s (s.readyPoll pcnt) es k := by
  have hread := Transacts.xReadReg s s.cfg.readyAddr
  rcases s.readyPoll_cases pcnt with ⟨-, h⟩ | ⟨-, h⟩ | ⟨-, h⟩ <;> rw [h]
  · exact ⟨_, _, hread.trans (.writes (initRecords_ne_nil s.cfg.initRom) rfl rfl rfl rfl rfl rfl)⟩
  · exact ⟨_, _, hread.trans (.silent rfl rfl rfl rfl rfl rfl)⟩
  · exact ⟨_, _, hread.trans (.silent rfl rfl rfl rfl rfl rfl)⟩

/-- One TX-done poll, and on done the rest of SEND: a delay, a register read, then two strobes (R91, R94). -/
theorem State.txPoll_transacts (s : State) (pcnt : Nat) : ∃ es k, Transacts s (s.txPoll pcnt) es k := by
  have hread := (Transacts.delay s s.cfg.txPollUs).trans (.xReadReg _ s.cfg.txdoneAddr)
  rcases s.txPoll_cases pcnt with ⟨-, h⟩ | ⟨-, h⟩ | ⟨-, h⟩ <;> rw [h]
  · exact ⟨_, _, hread.trans (.writes (bss := [[s.cfg.sSidle], [s.cfg.sSrx]]) (by simp) rfl rfl rfl
      (by simp [State.answer, State.answerAt]) rfl rfl)⟩
  · exact ⟨_, _, hread.trans (.silent rfl rfl rfl (by simp [State.answer, State.answerAt]) rfl rfl)⟩
  · exact ⟨_, _, hread.trans (.silent rfl rfl rfl (by simp [State.answer, State.answerAt]) rfl rfl)⟩

/-- SEND before its wait: four writes (R94). -/
theorem State.sendStart_transacts (s : State) (n : Nat) : ∃ es k, Transacts s (s.sendStart n) es k := by
  rw [State.sendStart_eq]
  exact ⟨_, _, .writes (bss := [[s.cfg.sSftx], [s.cfg.sSidle], s.cfg.txfifoHdr :: s.memRead .tx 0 n, [s.cfg.sStx]])
    (by simp) rfl rfl rfl rfl rfl rfl⟩

/-- RECEIVE with occupancy: the burst, then four strobes (R95). -/
theorem State.receiveBurst_transacts (s : State) {k : Nat} (h1 : 1 ≤ k) (h255 : k ≤ 255) :
    ∃ es l, Transacts s (s.receiveBurst k) es l := by
  rw [State.receiveBurst_eq]
  exact ⟨_, _, (Transacts.xReadBurst s h1 h255).trans
    (.writes (bss := [[s.cfg.sSidle], [s.cfg.sSfrx], [s.cfg.sSftx], [s.cfg.sSrx]]) (by simp) rfl rfl rfl
      (by simp) rfl rfl)⟩

/-- A burst that RECEIVE asks for has 1 to 255 bytes: neither the occupancy nor the capacity is 0 (R95, R132). -/
theorem burst_range {occ c : Byte} (hocc : occ ≠ 0) (hc : c ≠ 0) :
    1 ≤ min occ.toNat c.toNat ∧ min occ.toNat c.toNat ≤ 255 := by
  have hocc' : occ.toNat ≠ 0 := fun h => hocc (BitVec.eq_of_toNat_eq h)
  have hc' : c.toNat ≠ 0 := fun h => hc (BitVec.eq_of_toNat_eq h)
  have := occ.isLt
  omega

/-- What each command does on the transport. -/
theorem exec_transacts {i : Instr} {s t : State} (h : exec i s = .next t) : ∃ es k, Transacts s t es k := by
  cases i with
  | encode target source reqLen =>
    rcases execEncode_cases h with ⟨-, rfl⟩ | ⟨code, wl, -, rfl⟩
    · exact ⟨_, _, .raise s _⟩
    · exact ⟨_, _, (Transacts.memWrite s _ _ _).trans (.silent rfl rfl rfl rfl rfl rfl)⟩
  | decode n =>
    rcases execDecode_cases h with ⟨-, rfl⟩ | ⟨-, e, -, rfl⟩ | ⟨-, p, -, rfl⟩
    · exact ⟨_, _, .raise s _⟩
    · exact ⟨_, _, .raise s _⟩
    · exact ⟨_, _, .silent rfl rfl rfl rfl rfl rfl⟩
  | reset =>
    obtain rfl := execReset_cases h
    have huninit : Transacts s { s with drv := .uninit } [] 0 := .silent rfl rfl rfl rfl rfl rfl
    obtain ⟨_, _, hpoll⟩ := State.readyPoll_transacts { s with drv := .uninit } 0
    exact ⟨_, _, huninit.trans hpoll⟩
  | send n =>
    rcases execSend_cases h with ⟨-, rfl⟩ | ⟨-, -, rfl⟩ | ⟨-, -, rfl⟩
    · exact ⟨_, _, .raise s _⟩
    · exact ⟨_, _, .raise s _⟩
    · obtain ⟨_, _, hstart⟩ := s.sendStart_transacts n.toNat
      obtain ⟨_, _, hpoll⟩ := (s.sendStart n.toNat).txPoll_transacts 0
      exact ⟨_, _, hstart.trans hpoll⟩
  | receive capacity =>
    have hread := Transacts.xReadReg s s.cfg.rxoccAddr
    rcases execReceive_cases h with ⟨-, rfl⟩ | ⟨-, -, rfl⟩ | ⟨-, -, -, rfl⟩ | ⟨hcap, -, hocc, rfl⟩
    · exact ⟨_, _, .raise s _⟩
    · exact ⟨_, _, .raise s _⟩
    · exact ⟨_, _, hread.trans (.silent rfl rfl rfl rfl rfl rfl)⟩
    · obtain ⟨h1, h255⟩ := burst_range hocc fun h0 => hcap (.inl h0)
      obtain ⟨_, _, hburst⟩ := (s.xReadReg s.cfg.rxoccAddr).receiveBurst_transacts h1 h255
      exact ⟨_, _, hread.trans hburst⟩
  | readreg addr =>
    obtain rfl := execReadreg_cases h
    exact ⟨_, _, (Transacts.xReadReg s addr).trans (.silent rfl rfl rfl rfl rfl rfl)⟩
  | bufwr sp idx data =>
    rcases execBufwr_cases h with ⟨-, rfl⟩ | ⟨space, -, -, rfl⟩
    · exact ⟨_, _, .raise s _⟩
    · exact ⟨_, _, (Transacts.memWrite s _ _ _).trans (.silent rfl rfl rfl rfl rfl rfl)⟩
  | bufrd sp idx =>
    rcases execBufrd_cases h with ⟨-, rfl⟩ | ⟨space, -, -, rfl⟩
    · exact ⟨_, _, .raise s _⟩
    · exact ⟨_, _, .silent rfl rfl rfl rfl rfl rfl⟩

/-- What one step does on the transport. -/
theorem step_transacts {s t : State} (h : step s = .next t) : ∃ es k, Transacts s t es k := by
  obtain ⟨-, ⟨-, -, rfl⟩ | ⟨-, w, ws, i, -, -, hexec⟩ | ⟨-, w, ws, e, -, -, rfl⟩ | ⟨pcnt, -, rfl⟩ |
    ⟨pcnt, -, rfl⟩⟩ := step_cases h
  · exact ⟨_, _, .silent rfl rfl rfl rfl rfl rfl⟩
  · have htake : Transacts s { s with hostWords := ws } [] 0 := .silent rfl rfl rfl rfl rfl rfl
    obtain ⟨_, _, hrun⟩ := exec_transacts hexec
    exact ⟨_, _, htake.trans hrun⟩
  · exact ⟨_, _, .silent rfl rfl rfl rfl rfl rfl⟩
  · exact s.readyPoll_transacts pcnt
  · exact s.txPoll_transacts pcnt

/-- Settles O12: by `step_transacts`, whose relation fixes the configuration and MY_ADDR. -/
theorem configurationNeverChanges : Obligations.ConfigurationNeverChanges := by
  intro s t h
  obtain ⟨_, _, ht⟩ := step_transacts h
  exact ⟨ht.cfg, ht.myAddr⟩

/-- Settles O13: by `step_transacts`. -/
theorem historyOnlyGrows : Obligations.HistoryOnlyGrows := by
  intro s t h
  obtain ⟨es, k, ht⟩ := step_transacts h
  exact ⟨es, k, ht.hist, ht.answers, ht.draws, ht.answered⟩

/-! ### ChipNotReady

Only a poll can end a command with ChipNotReady (R107), so the frame is that of a poll at its limit. -/

/-- `t` is what a poll at its limit makes of `s`: DRV_STATE = UNINIT, CODE = 6, SEL_N = 1, one answer taken,
HIST longer, and nothing else changed (R105, R107). -/
def State.EndsNotReady (s t : State) : Prop :=
  s.hist <+: t.hist ∧
  t = { s with
    drv := .uninit
    code := 6
    seq := .idle
    selN := 1
    hist := t.hist
    answers := s.answers.drop 1
    draws := s.draws + 1 }

/-- A ready poll that ends RESET with ChipNotReady is one at its limit (R90). -/
theorem State.readyPoll_endsNotReady {s : State} {pcnt : Nat} (hq : (s.readyPoll pcnt).seq = .idle)
    (hc : (s.readyPoll pcnt).code = 6) : s.EndsNotReady (s.readyPoll pcnt) := by
  rcases s.readyPoll_cases pcnt with ⟨-, h⟩ | ⟨-, h⟩ | ⟨-, h⟩ <;> rw [h] at hq hc ⊢
  · exact absurd hc (by simp)
  · exact ⟨List.prefix_append _ _, rfl⟩
  · exact absurd hq (by simp)

/-- A TX-done poll that ends SEND with ChipNotReady is one at its limit (R91). -/
theorem State.txPoll_endsNotReady {s : State} {pcnt : Nat} (hq : (s.txPoll pcnt).seq = .idle)
    (hc : (s.txPoll pcnt).code = 6) : s.EndsNotReady (s.txPoll pcnt) := by
  rcases s.txPoll_cases pcnt with ⟨-, h⟩ | ⟨-, h⟩ | ⟨-, h⟩ <;> rw [h] at hq hc ⊢
  · exact absurd hc (by simp)
  · exact ⟨List.prefix_append _ _, rfl⟩
  · exact absurd hq (by simp)

/-- What comes before the poll shows in HIST, DRV_STATE and SEL_N alone, so the frame is that of the command. -/
theorem State.EndsNotReady.of_start {s u t : State} (h : u.EndsNotReady t) (hhist : s.hist <+: u.hist)
    (hu : u = { s with drv := u.drv, selN := u.selN, hist := u.hist }) : s.EndsNotReady t := by
  obtain ⟨hpre, ht⟩ := h
  refine ⟨hhist.trans hpre, ?_⟩
  rw [hu] at ht
  exact ht

/-- A command that ends with another status has not CODE 6 (R104). -/
theorem State.raise_code_ne_six (s : State) {e : Status} (he : e ≠ .chipNotReady) : (s.raise e).code ≠ 6 :=
  fun h => he (Status.code_injective e .chipNotReady h)

/-- A command that ends with OK has not CODE 6 (R104). -/
theorem State.finish_code_ne_six (s : State) : s.finish.code ≠ 6 := s.raise_code_ne_six (by decide)

/-- No check of DECODE after the header's fails with ChipNotReady (R78). -/
theorem parseBody_error_ne_chipNotReady {myAddr : Addr} {dab sab : BitVec 2} {wl : Nat} {rest : List Byte}
    {e : Status} (h : parseBody myAddr dab sab wl rest = .error e) : e ≠ .chipNotReady := by
  simp only [parseBody] at h
  split_ifs at h <;> cases h <;> decide

/-- No check of DECODE fails with ChipNotReady (R78). -/
theorem parseFrame_error_ne_chipNotReady {myAddr : Addr} {bs : List Byte} {e : Status}
    (h : parseFrame myAddr bs = .error e) : e ≠ .chipNotReady := by
  unfold parseFrame at h
  split at h
  · split_ifs at h
    · cases h; decide
    · cases h; decide
    · cases h; decide
    · split at h
      · cases h; decide
      · exact parseBody_error_ne_chipNotReady h
  · cases h; decide

/-- A command that ends at once with CODE 6 is a RESET or a SEND whose first poll is at its limit. -/
theorem exec_endsNotReady {i : Instr} {s t : State} (h : exec i s = .next t) (hq : t.seq = .idle)
    (hc : t.code = 6) : s.EndsNotReady t := by
  cases i with
  | encode target source reqLen =>
    rcases execEncode_cases h with ⟨-, rfl⟩ | ⟨code, wl, -, rfl⟩
    · exact absurd hc (s.raise_code_ne_six (by decide))
    · exact absurd hc (State.finish_code_ne_six _)
  | decode n =>
    rcases execDecode_cases h with ⟨-, rfl⟩ | ⟨-, e, he, rfl⟩ | ⟨-, p, -, rfl⟩
    · exact absurd hc (s.raise_code_ne_six (by decide))
    · exact absurd hc (s.raise_code_ne_six (parseFrame_error_ne_chipNotReady he))
    · exact absurd hc (State.finish_code_ne_six _)
  | reset =>
    obtain rfl := execReset_cases h
    exact (State.readyPoll_endsNotReady hq hc).of_start (List.prefix_refl _) rfl
  | send n =>
    rcases execSend_cases h with ⟨-, rfl⟩ | ⟨-, -, rfl⟩ | ⟨-, -, rfl⟩
    · exact absurd hc (s.raise_code_ne_six (by decide))
    · exact absurd hc (s.raise_code_ne_six (by decide))
    · have hstart := s.sendStart_eq n.toNat
      refine (State.txPoll_endsNotReady hq hc).of_start ?_ ?_ <;> rw [hstart]
      exact List.prefix_append _ _
  | receive capacity =>
    rcases execReceive_cases h with ⟨-, rfl⟩ | ⟨-, -, rfl⟩ | ⟨-, -, -, rfl⟩ | ⟨-, -, -, rfl⟩
    · exact absurd hc (s.raise_code_ne_six (by decide))
    · exact absurd hc (s.raise_code_ne_six (by decide))
    · exact absurd hc (State.finish_code_ne_six _)
    · exact absurd hc (State.finish_code_ne_six _)
  | readreg addr =>
    obtain rfl := execReadreg_cases h
    exact absurd hc (State.finish_code_ne_six _)
  | bufwr sp idx data =>
    rcases execBufwr_cases h with ⟨-, rfl⟩ | ⟨space, -, -, rfl⟩
    · exact absurd hc (s.raise_code_ne_six (by decide))
    · exact absurd hc (State.finish_code_ne_six _)
  | bufrd sp idx =>
    rcases execBufrd_cases h with ⟨-, rfl⟩ | ⟨space, -, -, rfl⟩
    · exact absurd hc (s.raise_code_ne_six (by decide))
    · exact absurd hc (State.finish_code_ne_six _)

/-- Settles O15: the step is a word's command or a later poll, and either ends as `State.EndsNotReady` says. -/
theorem chipNotReadyLeavesUninit : Obligations.ChipNotReadyLeavesUninit := by
  intro s t hbusy h hq hc
  obtain ⟨-, ⟨hs, hh, -⟩ | ⟨hs, w, ws, i, hh, -, hexec⟩ | ⟨-, w, ws, e, -, -, rfl⟩ | ⟨pcnt, hs, rfl⟩ |
    ⟨pcnt, hs, rfl⟩⟩ := step_cases h
  · exact absurd hbusy (by simp [hs, hh])
  · obtain ⟨hhist, ht⟩ := exec_endsNotReady hexec hq hc
    refine ⟨hhist, ?_⟩
    simpa [hs, hh] using ht
  · exact absurd hc (State.raise_code_ne_six _ (by decide))
  · obtain ⟨hhist, ht⟩ := State.readyPoll_endsNotReady hq hc
    refine ⟨hhist, ?_⟩
    simpa [hs] using ht
  · obtain ⟨hhist, ht⟩ := State.txPoll_endsNotReady hq hc
    refine ⟨hhist, ?_⟩
    simpa [hs] using ht

/-! ### The frame codec's bounds

ENCODE's frame fits TX_BUF (R34), and a frame that DECODE accepts gives results of the shape of R22 to R25. -/

/-- An address has at most 3 bytes (R71). -/
theorem abc_le_three (v : Addr) : abc v ≤ 3 := by
  unfold abc
  split_ifs <;> omega

@[simp] theorem length_pack (v : Addr) (k : Nat) : (pack v k).length = k := by simp [pack]

/-- A payload on the wire has at most MAX_PAYLOAD bytes (R62, R74). -/
theorem wireLength_le_of_lenCode {r code wl : Nat} (h : lenCode r = some (code, wl)) : wl ≤ Config.maxPayload := by
  unfold lenCode at h
  unfold Config.maxPayload
  split_ifs at h <;> cases h <;> omega

/-- The length of the encoder's frame (R58, R65). -/
theorem length_buildFrame (t src : Addr) (code : Nat) (payload : List Byte) :
    (buildFrame t src code payload).length = 3 + abcTarget t + abcSource src + payload.length := by
  simp [buildFrame]
  omega

/-- The encoder's frame has at most MAX_FRAME bytes (R34, R58). -/
theorem length_buildFrame_le (t src : Addr) (code : Nat) {payload : List Byte}
    (h : payload.length ≤ Config.maxPayload) :
    (buildFrame t src code payload).length ≤ Config.maxFrame := by
  have ht := abc_le_three t
  have hs := abc_le_three src
  rw [length_buildFrame]
  unfold abcTarget abcSource Config.maxFrame
  unfold Config.maxPayload at h
  omega

/-- The number that bytes spell fits as many bytes (R73). -/
theorem bigEndian_lt (bs : List Byte) : bigEndian bs < 2 ^ (8 * bs.length) := by
  induction bs with
  | nil => simp [bigEndian]
  | cons b bs ih =>
    have hb : b.toNat + 1 ≤ 2 ^ 8 := b.isLt
    calc bigEndian (b :: bs) < b.toNat * 2 ^ (8 * bs.length) + 2 ^ (8 * bs.length) := Nat.add_lt_add_left ih _
      _ = (b.toNat + 1) * 2 ^ (8 * bs.length) := by ring
      _ ≤ 2 ^ 8 * 2 ^ (8 * bs.length) := Nat.mul_le_mul_right _ hb
      _ = 2 ^ (8 * (b :: bs).length) := by rw [List.length_cons, ← Nat.pow_add]; congr 1; omega

/-- An address read from a field of `k` bytes fits `k` bytes (R73). -/
theorem unpack_take_lt (bs : List Byte) (k : Nat) : (unpack (bs.take k)).toNat < 2 ^ (8 * k) :=
  calc (unpack (bs.take k)).toNat ≤ bigEndian (bs.take k) := by
        rw [unpack, BitVec.toNat_ofNat]
        exact Nat.mod_le _ _
    _ < 2 ^ (8 * (bs.take k).length) := bigEndian_lt _
    _ ≤ 2 ^ (8 * k) := Nat.pow_le_pow_right (by omega) (by have := List.length_take_le k bs; omega)

/-- The wire lengths of the valid length codes (R63, R74). -/
theorem wireLen_bucket {c wl : Nat} (h : wireLen c = some wl) : wl ≤ 8 ∨ wl = 16 ∨ wl = 32 ∨ wl = 64 := by
  unfold wireLen at h
  split_ifs at h <;> cases h <;> omega

/-- What DECODE's results say of an accepted frame: for this node (R80), 1 to 3 source bytes (R23), addresses
that fit their fields (R73) and a bucketed length (R24). -/
structure Parsed.Fits (myAddr : Addr) (p : Parsed) : Prop where
  sab : 1 ≤ p.sab.toNat
  target : p.target = 0 ∨ p.target = myAddr
  targetFits : p.target.toNat < 2 ^ (8 * p.dab.toNat)
  sourceFits : p.source.toNat < 2 ^ (8 * p.sab.toNat)
  wlen : p.wlen ≤ 8 ∨ p.wlen = 16 ∨ p.wlen = 32 ∨ p.wlen = 64

/-- A valid HDB2 announces a source byte (R78 step 3). -/
theorem hdb2Sab_pos {h : Byte} (hv : hdb2Invalid h = false) : 1 ≤ (hdb2Sab h).toNat := by
  have hne : hdb2Sab h ≠ 0 := by
    intro h0
    simp [hdb2Invalid, h0] at hv
  have hnat : (hdb2Sab h).toNat ≠ 0 := fun h0 => hne (BitVec.eq_of_toNat_eq h0)
  omega

/-- What R78 from step 6 on gives, when it gives a result. -/
theorem parseBody_ok {myAddr : Addr} {dab sab : BitVec 2} {wl : Nat} {rest : List Byte} {p : Parsed}
    (h : parseBody myAddr dab sab wl rest = .ok p) :
    forUs myAddr (unpack (rest.take dab.toNat)) = true ∧
    p = ⟨unpack (rest.take dab.toNat), unpack ((rest.drop dab.toNat).take sab.toNat), dab, sab, wl⟩ := by
  simp only [parseBody] at h
  split_ifs at h with hdab hus hlen
  cases h
  exact ⟨by simpa using hus, rfl⟩

/-- An accepted frame passed the header's checks, and its results are those of R78 from step 6 on. -/
theorem parseFrame_ok {myAddr : Addr} {bs : List Byte} {p : Parsed} (h : parseFrame myAddr bs = .ok p) :
    ∃ h2 h1 wl rest, hdb2Invalid h2 = false ∧ wireLen (hdb1Code h1).toNat = some wl ∧
      parseBody myAddr (hdb2Dab h2) (hdb2Sab h2) wl rest = .ok p := by
  unfold parseFrame at h
  split at h
  · rename_i sync h2 h1 rest
    split_ifs at h with hsync hhdb2 hhdb1
    split at h
    · cases h
    · rename_i wl hwl
      exact ⟨h2, h1, wl, rest, by simpa using hhdb2, hwl, h⟩
  · cases h

/-- The results of every accepted frame have the shape of R22 to R25. -/
theorem parseFrame_fits {myAddr : Addr} {bs : List Byte} {p : Parsed} (h : parseFrame myAddr bs = .ok p) :
    p.Fits myAddr := by
  obtain ⟨h2, h1, wl, rest, hhdb2, hwl, hbody⟩ := parseFrame_ok h
  obtain ⟨hus, rfl⟩ := parseBody_ok hbody
  exact {
    sab := hdb2Sab_pos hhdb2
    target := by simpa [forUs] using hus
    targetFits := unpack_take_lt _ _
    sourceFits := unpack_take_lt _ _
    wlen := wireLen_bucket hwl }

/-! ### What the registers and buffers hold

The part of `Inv` that is about R_STATUS.CODE, the buffers and the decode results. It holds at every point
inside a command, too. -/

/-- The status code, the buffers and the decode results are as `Inv` asks. -/
structure ContentsOk (s : State) : Prop where
  /-- A named status (R104). -/
  code : s.code.toNat ≤ 9
  /-- Each buffer is canonical and inside its size (R34, R40). -/
  buffers : ∀ sp, Memory.wf (s.sizeOf sp) (s.cells sp)
  /-- The shape of the decode results (R22 to R25). -/
  parsed : s.parsedOk
  /-- Broadcast or this node (R80). -/
  target : s.rTarget = 0 ∨ s.rTarget = s.myAddr
  /-- R_TARGET fits its bytes (R73). -/
  targetFits : s.rTarget.toNat < 2 ^ (8 * s.rDab.toNat)
  /-- R_SOURCE fits its bytes (R73). -/
  sourceFits : s.rSource.toNat < 2 ^ (8 * s.rSab.toNat)

/-- A command's end writes a named status (R104). -/
theorem ContentsOk.raise {s : State} (h : ContentsOk s) (e : Status) : ContentsOk (s.raise e) :=
  { h with code := e.code_le }

/-- R_DATA is free (R19). -/
theorem ContentsOk.setRData {s : State} (h : ContentsOk s) (v : Byte) : ContentsOk { s with rData := v } :=
  { h with }

/-- DRV_STATE is no part of the contents. -/
theorem ContentsOk.setDrv {s : State} (h : ContentsOk s) (d : DrvState) : ContentsOk { s with drv := d } :=
  { h with }

/-- The presented words are no part of the contents (log 2). -/
theorem ContentsOk.setHostWords {s : State} (h : ContentsOk s) (ws : List CmdWord) :
    ContentsOk { s with hostWords := ws } :=
  { h with }

/-- A buffer write inside the buffer keeps every buffer canonical (R40). -/
theorem ContentsOk.memWrite {s : State} (h : ContentsOk s) {sp : Space} {i : Nat} {bs : List Byte}
    (hfit : i + bs.length ≤ s.sizeOf sp) : ContentsOk (s.memWrite sp i bs) where
  code := by simpa using h.code
  buffers := by
    intro sp'
    rw [State.sizeOf_congr (s.memWrite_cfg sp i bs), State.memWrite, State.cells_setCells]
    split_ifs with hsp
    · exact hsp ▸ Memory.writeBytes_wf bs (h.buffers sp) hfit
    · exact h.buffers sp'
  parsed := by simpa [State.parsedOk] using h.parsed
  target := by simpa using h.target
  targetFits := by simpa using h.targetFits
  sourceFits := by simpa using h.sourceFits

/-- The results of an accepted frame have their shape in the registers, too: no width cuts them (R24, R25). -/
theorem ContentsOk.setParsed {s : State} (h : ContentsOk s) {p : Parsed} (hp : p.Fits s.myAddr) :
    ContentsOk (s.setParsed p) where
  code := h.code
  buffers := h.buffers
  parsed := by
    have hdab := p.dab.isLt
    have hsab := p.sab.isLt
    have hoff : (BitVec.ofNat 4 p.offset).toNat = 3 + p.dab.toNat + p.sab.toNat := by
      rw [BitVec.toNat_ofNat, Parsed.offset]
      omega
    have hwlen : (BitVec.ofNat 7 p.wlen).toNat = p.wlen := by
      have := hp.wlen
      rw [BitVec.toNat_ofNat]
      omega
    refine .inr ⟨hp.sab, hoff, ?_⟩
    rw [State.setParsed_rWlen, hwlen]
    exact hp.wlen
  target := hp.target
  targetFits := hp.targetFits
  sourceFits := hp.sourceFits

/-- A ready poll writes no buffer and no decode result (R90, R93). -/
theorem ContentsOk.readyPoll {s : State} (h : ContentsOk s) (pcnt : Nat) : ContentsOk (s.readyPoll pcnt) := by
  rcases s.readyPoll_cases pcnt with ⟨-, heq⟩ | ⟨-, heq⟩ | ⟨-, heq⟩ <;> rw [heq]
  · exact { h with code := Status.ok.code_le }
  · exact { h with code := Status.chipNotReady.code_le }
  · exact { h with }

/-- A TX-done poll writes no buffer and no decode result (R91, R94). -/
theorem ContentsOk.txPoll {s : State} (h : ContentsOk s) (pcnt : Nat) : ContentsOk (s.txPoll pcnt) := by
  rcases s.txPoll_cases pcnt with ⟨-, heq⟩ | ⟨-, heq⟩ | ⟨-, heq⟩ <;> rw [heq]
  · exact { h with code := Status.ok.code_le }
  · exact { h with code := Status.chipNotReady.code_le }
  · exact { h with }

/-- SEND before its wait writes no buffer and no result (R94). -/
theorem ContentsOk.sendStart {s : State} (h : ContentsOk s) (n : Nat) : ContentsOk (s.sendStart n) := by
  rw [State.sendStart_eq]
  exact { h with }

/-- A register read writes no buffer and no result (R83). -/
theorem ContentsOk.xReadReg {s : State} (h : ContentsOk s) (a : Byte) : ContentsOk (s.xReadReg a) := { h with }

/-- RECEIVE's burst stays inside RX_BUF (R40, R95). -/
theorem ContentsOk.receiveBurst {s : State} (h : ContentsOk s) {k : Nat} (hk : k ≤ s.sizeOf .rx) :
    ContentsOk (s.receiveBurst k) := by
  have hwrite : ContentsOk (s.memWrite .rx 0 (s.answerBytes k)) := h.memWrite (by simpa using hk)
  rw [State.receiveBurst_eq]
  exact { hwrite with code := Status.ok.code_le }

/-- Every command keeps the shape of the registers and buffers. -/
theorem ContentsOk.exec {i : Instr} {s t : State} (hs : ContentsOk s) (h : exec i s = .next t) :
    ContentsOk t := by
  cases i with
  | encode target source reqLen =>
    rcases execEncode_cases h with ⟨-, rfl⟩ | ⟨code, wl, hlen, rfl⟩
    · exact hs.raise _
    · have hframe := length_buildFrame_le target source code (payload := s.memRead .pay 0 wl)
        (by simpa using wireLength_le_of_lenCode hlen)
      exact ((hs.memWrite (by simpa [State.sizeOf] using hframe)).setRData _).raise .ok
  | decode n =>
    rcases execDecode_cases h with ⟨-, rfl⟩ | ⟨-, e, -, rfl⟩ | ⟨-, p, hp, rfl⟩
    · exact hs.raise _
    · exact hs.raise _
    · exact (hs.setParsed (parseFrame_fits hp)).raise .ok
  | reset =>
    obtain rfl := execReset_cases h
    exact (hs.setDrv .uninit).readyPoll 0
  | send n =>
    rcases execSend_cases h with ⟨-, rfl⟩ | ⟨-, -, rfl⟩ | ⟨-, -, rfl⟩
    · exact hs.raise _
    · exact hs.raise _
    · exact (hs.sendStart _).txPoll 0
  | receive capacity =>
    rcases execReceive_cases h with ⟨-, rfl⟩ | ⟨-, -, rfl⟩ | ⟨-, -, -, rfl⟩ | ⟨hcap, -, -, rfl⟩
    · exact hs.raise _
    · exact hs.raise _
    · exact ((hs.xReadReg _).setRData 0).raise .ok
    · have hfit : min s.occupancy.toNat capacity.toNat ≤ (s.xReadReg s.cfg.rxoccAddr).sizeOf .rx := by
        rw [State.sizeOf_congr (s.xReadReg_cfg _), State.sizeOf]
        omega
      exact (hs.xReadReg _).receiveBurst hfit
  | readreg addr =>
    obtain rfl := execReadreg_cases h
    exact ((hs.xReadReg addr).setRData _).raise .ok
  | bufwr sp idx data =>
    rcases execBufwr_cases h with ⟨-, rfl⟩ | ⟨space, -, hidx, rfl⟩
    · exact hs.raise _
    · exact (hs.memWrite (by simpa using hidx)).raise .ok
  | bufrd sp idx =>
    rcases execBufrd_cases h with ⟨-, rfl⟩ | ⟨space, -, -, rfl⟩
    · exact hs.raise _
    · exact (hs.setRData _).raise .ok

/-- Every step keeps the shape of the registers and buffers. -/
theorem ContentsOk.step {s t : State} (hs : ContentsOk s) (h : step s = .next t) : ContentsOk t := by
  obtain ⟨-, ⟨-, -, rfl⟩ | ⟨-, w, ws, i, -, -, hexec⟩ | ⟨-, w, ws, e, -, -, rfl⟩ | ⟨pcnt, -, rfl⟩ |
    ⟨pcnt, -, rfl⟩⟩ := step_cases h
  · exact hs
  · exact (hs.setHostWords ws).exec hexec
  · exact (hs.setHostWords ws).raise _
  · exact hs.readyPoll pcnt
  · exact hs.txPoll pcnt

/-! ### DRV_STATE and the poll counters -/

/-- DRV_STATE as it is between commands (R124). -/
def State.drvRests (s : State) : Prop := s.drv = .uninit ∨ s.drv = .rx

/-- Between commands the sequencing is that DRV_STATE rests (R124). -/
theorem State.sequencingOk_idle {s : State} (hq : s.seq = .idle) : s.sequencingOk ↔ s.drvRests := by
  rw [State.sequencingOk, hq]
  rfl

/-- A command that ends where DRV_STATE rests leaves the sequencing right, whatever its status. -/
theorem State.sequencingOk_raise {s : State} (hd : s.drvRests) (e : Status) : (s.raise e).sequencingOk := hd

/-- A ready poll in UNINIT ends RESET or goes on in UNINIT below its limit (R90, R93). -/
theorem State.readyPoll_sequencingOk {s : State} (hd : s.drv = .uninit) (pcnt : Nat) :
    (s.readyPoll pcnt).sequencingOk := by
  rcases s.readyPoll_cases pcnt with ⟨-, h⟩ | ⟨-, h⟩ | ⟨hlimit, h⟩ <;> rw [h]
  · exact .inr rfl
  · exact .inl rfl
  · exact ⟨hd, by omega, hlimit⟩

/-- A TX-done poll in TX ends SEND or goes on in TX below its limit (R91, R94). -/
theorem State.txPoll_sequencingOk {s : State} (hd : s.drv = .tx) (pcnt : Nat) :
    (s.txPoll pcnt).sequencingOk := by
  rcases s.txPoll_cases pcnt with ⟨-, h⟩ | ⟨-, h⟩ | ⟨hlimit, h⟩ <;> rw [h]
  · exact .inr rfl
  · exact .inl rfl
  · exact ⟨hd, by omega, hlimit⟩

/-- Every command started where DRV_STATE rests leaves the sequencing right. -/
theorem exec_sequencingOk {i : Instr} {s t : State} (hd : s.drvRests) (h : exec i s = .next t) :
    t.sequencingOk := by
  cases i with
  | encode target source reqLen =>
    rcases execEncode_cases h with ⟨-, rfl⟩ | ⟨code, wl, -, rfl⟩
    · exact State.sequencingOk_raise hd _
    · exact State.sequencingOk_raise hd .ok
  | decode n =>
    rcases execDecode_cases h with ⟨-, rfl⟩ | ⟨-, e, -, rfl⟩ | ⟨-, p, -, rfl⟩
    · exact State.sequencingOk_raise hd _
    · exact State.sequencingOk_raise hd _
    · exact State.sequencingOk_raise hd .ok
  | reset =>
    obtain rfl := execReset_cases h
    exact State.readyPoll_sequencingOk rfl 0
  | send n =>
    rcases execSend_cases h with ⟨-, rfl⟩ | ⟨-, -, rfl⟩ | ⟨-, -, rfl⟩
    · exact State.sequencingOk_raise hd _
    · exact State.sequencingOk_raise hd _
    · exact State.txPoll_sequencingOk (by rw [State.sendStart_eq]) 0
  | receive capacity =>
    rcases execReceive_cases h with ⟨-, rfl⟩ | ⟨-, -, rfl⟩ | ⟨-, -, -, rfl⟩ | ⟨-, -, -, rfl⟩
    · exact State.sequencingOk_raise hd _
    · exact State.sequencingOk_raise hd _
    · exact State.sequencingOk_raise hd .ok
    · rw [State.receiveBurst_eq]
      exact .inr rfl
  | readreg addr =>
    obtain rfl := execReadreg_cases h
    exact State.sequencingOk_raise hd .ok
  | bufwr sp idx data =>
    rcases execBufwr_cases h with ⟨-, rfl⟩ | ⟨space, -, -, rfl⟩
    · exact State.sequencingOk_raise hd _
    · refine State.sequencingOk_raise (s := s.memWrite space idx.toNat [data]) ?_ .ok
      simpa [State.drvRests] using hd
  | bufrd sp idx =>
    rcases execBufrd_cases h with ⟨-, rfl⟩ | ⟨space, -, -, rfl⟩
    · exact State.sequencingOk_raise hd _
    · exact State.sequencingOk_raise hd .ok

/-- Every step keeps the sequencing. -/
theorem step_sequencingOk {s t : State} (hs : s.sequencingOk) (h : step s = .next t) : t.sequencingOk := by
  obtain ⟨-, ⟨-, -, rfl⟩ | ⟨hq, w, ws, i, -, -, hexec⟩ | ⟨hq, w, ws, e, -, -, rfl⟩ | ⟨pcnt, hq, rfl⟩ |
    ⟨pcnt, hq, rfl⟩⟩ := step_cases h
  · exact hs
  · exact exec_sequencingOk (s := { s with hostWords := ws }) ((State.sequencingOk_idle hq).1 hs) hexec
  · exact State.sequencingOk_raise (s := { s with hostWords := ws }) ((State.sequencingOk_idle hq).1 hs) _
  · rw [State.sequencingOk, hq] at hs
    exact State.readyPoll_sequencingOk hs.1 pcnt
  · rw [State.sequencingOk, hq] at hs
    exact State.txPoll_sequencingOk hs.1 pcnt

/-! ### The invariant -/

/-- What the invariant says of the registers and buffers. -/
theorem Inv.contentsOk {s : State} (h : Inv s) : ContentsOk s where
  code := h.codeOk
  buffers := fun sp => by
    cases sp with
    | pay => exact h.payOk
    | tx => exact h.txOk
    | rx => exact h.rxOk
  parsed := h.parsedOk
  target := h.targetOk
  targetFits := h.targetFits
  sourceFits := h.sourceFits

/-- The invariant is kept by what issues legal transactions and leaves the registers, the buffers and the
sequencing right. -/
theorem Inv.of_transacts {s t : State} {es : List Event} {k : Nat} (h : Inv s) (ht : Transacts s t es k)
    (hcontents : ContentsOk t) (hseq : t.sequencingOk) : Inv t where
  cfgOk := by rw [ht.cfg]; exact h.cfgOk
  myAddrOk := by rw [ht.cfg, ht.myAddr]; exact h.myAddrOk
  selOk := ht.sel h.selOk
  codeOk := hcontents.code
  payOk := hcontents.buffers .pay
  txOk := hcontents.buffers .tx
  rxOk := hcontents.buffers .rx
  seqOk := hseq
  parsedOk := hcontents.parsed
  targetOk := hcontents.target
  targetFits := hcontents.targetFits
  sourceFits := hcontents.sourceFits
  histOk := by
    intro e he
    rw [ht.hist] at he
    rcases List.mem_append.1 he with he | he
    · exact h.histOk e he
    · exact ht.legal e he

/-- Settles O18: the three parts of the invariant are kept by `step_transacts`, `ContentsOk.step` and
`step_sequencingOk`. -/
theorem everyStepKeepsInvariant : Obligations.EveryStepKeepsInvariant := by
  intro s t hs h
  obtain ⟨_, _, ht⟩ := step_transacts h
  exact hs.of_transacts ht (hs.contentsOk.step h) (step_sequencingOk hs.seqOk h)

end Sys2Proof.Machine

/-! The memory family (20_memory.md): what BUFWR writes, the next BUFRD reads (O52). -/

namespace Sys2Proof.Machine

/-! ### Buffer access in range -/

/-- BUFWR of a byte inside its buffer is one MemWrite of that byte (R100). -/
theorem exec_bufwr_inRange {sp : SpaceCode} {space : Space} {idx : Byte} {s : State}
    (hsp : spaceOf sp = some space) (hidx : idx.toNat < s.sizeOf space) (data : Byte) :
    exec (.bufwr sp idx data) s = .next (s.memWrite space idx.toNat [data]).finish := by
  have hop : s.bufOperand sp idx = some (space, idx.toNat) := State.bufOperand_eq_some.2 ⟨hsp, hidx, rfl⟩
  simp only [exec, execBufwr, hop]

/-- BUFRD of a byte inside its buffer puts that byte in R_DATA (R101). -/
theorem exec_bufrd_inRange {sp : SpaceCode} {space : Space} {idx : Byte} {s : State}
    (hsp : spaceOf sp = some space) (hidx : idx.toNat < s.sizeOf space) :
    exec (.bufrd sp idx) s = .next ({ s with rData := s.readByte space idx.toNat } : State).finish := by
  have hop : s.bufOperand sp idx = some (space, idx.toNat) := State.bufOperand_eq_some.2 ⟨hsp, hidx, rfl⟩
  simp only [exec, execBufrd, hop]

/-- The end of a command leaves every buffer byte as it is. -/
@[simp] theorem State.readByte_finish (s : State) (sp : Space) (a : Nat) :
    s.finish.readByte sp a = s.readByte sp a :=
  State.readByte_congr (by cases sp <;> rfl) a

/-- The byte that a one-byte MemWrite put in place (R50). -/
theorem State.readByte_memWrite_byte (s : State) (sp : Space) (i : Nat) (b : Byte) :
    (s.memWrite sp i [b]).readByte sp i = b := by
  simp [State.readByte_memWrite]

/-- Settles O52: BUFWR keeps the configuration, so the same operand is still in range for BUFRD, and the byte
there is the one written. -/
theorem bufwrIsSeenByBufrd : Obligations.BufwrIsSeenByBufrd := by
  intro sp idx data s t space hsp hidx h
  rw [exec_bufwr_inRange hsp hidx, Host.Outcome.next.injEq] at h
  subst h
  have hcfg : (s.memWrite space idx.toNat [data]).finish.cfg = s.cfg := by
    rw [State.finish_cfg, State.memWrite_cfg]
  have hstill : idx.toNat < (s.memWrite space idx.toNat [data]).finish.sizeOf space := by
    rwa [State.sizeOf_congr hcfg]
  refine ⟨_, exec_bufrd_inRange hsp hstill, ?_, rfl⟩
  rw [State.finish_rData, State.readByte_finish, State.readByte_memWrite_byte]

end Sys2Proof.Machine

/-! The encoding family (30_encoding.md): the decoder and the encoder are inverse to each other (O1, O2), the
table of R55 (O3, O4), the illegal words (O5), the step that runs a command (O7), the assembler (O55, O56), and
the init table's format (O34). -/

namespace Sys2Proof

/-! ### Bit fields of a word -/

/-- A field of a word is 0 when every bit of the word in its range is 0. -/
theorem extractLsb'_eq_zero_iff {v : Nat} (w : BitVec v) (k l : Nat) :
    w.extractLsb' k l = 0 ↔ ∀ i < l, w.getLsbD (k + i) = false := by
  constructor
  · intro h i hi
    simpa [hi] using congrArg (·.getLsbD i) h
  · intro h
    apply BitVec.eq_of_getLsbD_eq
    intro i hi
    simp [hi, h i hi]

/-- A field is 0 when its low part and its high part are. -/
theorem extractLsb'_add_eq_zero_iff {v : Nat} (w : BitVec v) (k l l' : Nat) :
    w.extractLsb' k (l + l') = 0 ↔ w.extractLsb' (k + l) l' = 0 ∧ w.extractLsb' k l = 0 := by
  simp only [extractLsb'_eq_zero_iff]
  constructor
  · intro h
    exact ⟨fun i hi => by rw [Nat.add_assoc]; exact h (l + i) (by omega), fun i hi => h i (by omega)⟩
  · rintro ⟨hhigh, hlow⟩ i hi
    rcases Nat.lt_or_ge i l with hil | hil
    · exact hlow i hil
    · have := hhigh (i - l) (by omega)
      rwa [show k + l + (i - l) = k + i by omega] at this

/-- A field of a field is a field of the word. -/
theorem extractLsb'_extractLsb'_of_add_le {v : Nat} (w : BitVec v) (k : Nat) {l k' l' : Nat} (h : k' + l' ≤ l) :
    (w.extractLsb' k l).extractLsb' k' l' = w.extractLsb' (k + k') l' := by
  apply BitVec.eq_of_getLsbD_eq
  intro i hi
  simp [hi, show k' + i < l by omega, Nat.add_assoc]

/-- Shifting a field down and masking its width leaves the field. -/
theorem shift_and_mask (w : CmdWord) (k l : Nat) :
    w >>> k &&& (BitVec.allOnes l).setWidth 64 = (w.extractLsb' k l).setWidth 64 := by
  apply BitVec.eq_of_getLsbD_eq
  intro i hi
  by_cases hil : i < l <;> simp [hi, hil]

/-- A field read with a shift and a mask is 0 exactly when the field is. -/
theorem shift_and_mask_eq_zero_iff (w : CmdWord) (k : Nat) {l : Nat} (hl : l ≤ 64) :
    w >>> k &&& (BitVec.allOnes l).setWidth 64 = 0 ↔ w.extractLsb' k l = 0 := by
  rw [shift_and_mask, BitVec.toNat_eq, BitVec.toNat_setWidth_of_le hl, BitVec.toNat_eq]
  rfl

/-- A masked word fixes every field that the mask covers. -/
theorem extractLsb'_of_and_eq {w m b : CmdWord} (h : w &&& m = b) (k : Nat) {l : Nat}
    (hm : m.extractLsb' k l = BitVec.allOnes l) : w.extractLsb' k l = b.extractLsb' k l := by
  rw [← h, BitVec.extractLsb'_and, hm, BitVec.and_allOnes]

/-- The low bits of a vector whose high bits are 0 are the vector. -/
theorem setWidth_extractLsb'_of_high_eq_zero (a : BitVec 24) {l : Nat} (h : a.extractLsb' l (24 - l) = 0) :
    (a.extractLsb' 0 l).setWidth 24 = a := by
  rw [extractLsb'_eq_zero_iff] at h
  apply BitVec.eq_of_getLsbD_eq
  intro i hi
  by_cases hil : i < l
  · simp [hi, hil]
  · have := h (i - l) (by omega)
    rw [show l + (i - l) = i by omega] at this
    simp [hil, this]

/-! ### The fields that a format marks 0 (R53) -/

theorem abZero_iff {w : CmdWord} : abZero w = true ↔ fieldA w = 0 ∧ fieldB w = 0 := by
  simp [abZero]

theorem bufZeroFields_iff {w : CmdWord} :
    bufZeroFields w = true ↔ w.extractLsb' 34 22 = 0 ∧ w.extractLsb' 16 16 = 0 := by
  rw [bufZeroFields, fieldA, fieldB, extractLsb'_extractLsb'_of_add_le _ _ (by decide),
    extractLsb'_extractLsb'_of_add_le _ _ (by decide), Bool.and_eq_true, decide_eq_true_iff, decide_eq_true_iff]

/-- A and B together are the 48 bits above N (R52). -/
theorem abZero_iff_extractLsb' {w : CmdWord} : abZero w = true ↔ w.extractLsb' 8 48 = 0 :=
  abZero_iff.trans (extractLsb'_add_eq_zero_iff w 8 24 24).symm

/-- A, B and N together are the low 56 bits (R52). -/
theorem abZero_and_fieldN_iff {w : CmdWord} :
    (abZero w && fieldN w = 0) = true ↔ w.extractLsb' 0 56 = 0 := by
  rw [Bool.and_eq_true, decide_eq_true_iff, abZero_iff_extractLsb']
  exact (extractLsb'_add_eq_zero_iff w 0 8 48).symm

/-- A of format F_BUF is the space code's two bits, when its zero field is 0 (R53). -/
theorem fieldA_of_bufZeroFields {w : CmdWord} (hz : bufZeroFields w = true) :
    fieldA w = (spaceCodeBits (fieldSp w)).setWidth 24 := by
  simp only [bufZeroFields, Bool.and_eq_true, decide_eq_true_iff] at hz
  rw [fieldSp, spaceCodeBits_of, setWidth_extractLsb'_of_high_eq_zero _ hz.1]

/-- B of format F_BUF is the byte index, when its zero field is 0 (R53). -/
theorem fieldB_of_bufZeroFields {w : CmdWord} (hz : bufZeroFields w = true) :
    fieldB w = (fieldIdx w).setWidth 24 := by
  simp only [bufZeroFields, Bool.and_eq_true, decide_eq_true_iff] at hz
  rw [fieldIdx, setWidth_extractLsb'_of_high_eq_zero _ hz.2]

/-- A word with RSV = 0 is known by its four other fields (R52). -/
theorem commandWord_eq_of_fields {w : CmdWord} (hr : fieldRsv w = 0) {op : BitVec 4} {a b : BitVec 24} {n : BitVec 8}
    (hop : (fieldOp w).toNat = op.toNat) (ha : fieldA w = a) (hb : fieldB w = b) (hn : fieldN w = n) :
    commandWord op a b n = w := by
  rw [← BitVec.eq_of_toNat_eq hop, ← ha, ← hb, ← hn, commandWord_fields w hr]

@[simp] theorem abZero_commandWord (op : BitVec 4) (n : BitVec 8) : abZero (commandWord op 0#24 0#24 n) = true := by
  simp [abZero]

@[simp] theorem fieldSp_commandWord (op : BitVec 4) (sp : SpaceCode) (b : BitVec 24) (n : BitVec 8) :
    fieldSp (commandWord op ((spaceCodeBits sp).setWidth 24) b n) = sp := by
  rw [fieldSp, fieldA_commandWord]
  cases sp <;> rfl

@[simp] theorem fieldIdx_commandWord (op : BitVec 4) (a : BitVec 24) (idx n : BitVec 8) :
    fieldIdx (commandWord op a (idx.setWidth 24) n) = idx := by
  rw [fieldIdx, fieldB_commandWord, BitVec.extractLsb'_setWidth_of_le (by decide), BitVec.extractLsb'_eq_self]

@[simp] theorem bufZeroFields_commandWord (op : BitVec 4) (sp : SpaceCode) (idx n : BitVec 8) :
    bufZeroFields (commandWord op ((spaceCodeBits sp).setWidth 24) (idx.setWidth 24) n) = true := by
  have ha : ((spaceCodeBits sp).setWidth 24).extractLsb' 2 22 = 0 := by cases sp <;> rfl
  have hb : (idx.setWidth 24).extractLsb' 8 16 = 0 := by
    rw [extractLsb'_eq_zero_iff]
    intro i _
    simp
  rw [bufZeroFields, fieldA_commandWord, fieldB_commandWord, ha, hb]
  rfl

/-! ### The decoder against the encoder -/

@[simp] theorem requireZero_true (i : Instr) : requireZero true i = .ok i := rfl

@[simp] theorem requireZero_eq_ok {zero : Bool} {i j : Instr} :
    requireZero zero i = .ok j ↔ zero = true ∧ i = j := by
  cases zero <;> simp [requireZero]

theorem requireZero_eq_error {zero : Bool} {i : Instr} :
    (∃ e, requireZero zero i = .error e) ↔ zero = false := by
  cases zero <;> simp [requireZero]

/-- Settles O1: by the command's format, each field of its word reads back what the encoder put there, and the
fields that the format marks 0 are 0. -/
theorem decodeInvertsEncode : Obligations.DecodeInvertsEncode := by
  intro i _
  cases i <;> simp [encode, decode]

/-- Every term of `Instr` is well formed (R52, R56). -/
theorem Instr.wf_true (i : Instr) : i.wf = true := by cases i <;> rfl

/-- The decoder reads every command's word as the command (R52 to R54). -/
@[simp] theorem decode_encode (i : Instr) : decode (encode i) = .ok i := decodeInvertsEncode i i.wf_true

/-- Settles O2: a word that the decoder accepts has RSV = 0 and 0 in the fields its format marks 0, so the fields
that the decoder reads are all of it. -/
theorem encodeInvertsDecode : Obligations.EncodeInvertsDecode := by
  intro w i h
  unfold decode at h
  split_ifs at h with hr
  have hr : fieldRsv w = 0 := not_not.1 hr
  split at h <;>
    simp only [requireZero_eq_ok, Bool.and_eq_true, decide_eq_true_iff, Except.ok.injEq, reduceCtorEq] at h
  case h_1 hop =>
    subst h
    exact commandWord_eq_of_fields hr hop rfl rfl rfl
  case h_2 hop | h_4 hop | h_5 hop | h_6 hop =>
    obtain ⟨hz, rfl⟩ := h
    obtain ⟨ha, hb⟩ := abZero_iff.1 hz
    exact commandWord_eq_of_fields hr hop ha hb rfl
  case h_3 hop =>
    obtain ⟨⟨hz, hn⟩, rfl⟩ := h
    obtain ⟨ha, hb⟩ := abZero_iff.1 hz
    exact commandWord_eq_of_fields hr hop ha hb hn
  case h_7 hop =>
    obtain ⟨hz, rfl⟩ := h
    exact commandWord_eq_of_fields hr hop (fieldA_of_bufZeroFields hz) (fieldB_of_bufZeroFields hz) rfl
  case h_8 hop =>
    obtain ⟨⟨hz, hn⟩, rfl⟩ := h
    exact commandWord_eq_of_fields hr hop (fieldA_of_bufZeroFields hz) (fieldB_of_bufZeroFields hz) hn

/-- The words that decode to a command are its one word. -/
theorem decode_eq_ok_iff {w : CmdWord} {i : Instr} : decode w = .ok i ↔ encode i = w :=
  ⟨encodeInvertsDecode w i, fun h => h ▸ decode_encode i⟩

end Sys2Proof

namespace Sys2Proof

/-! ### The match/mask table (R55) -/

/-- A word with the match value of a row of format F_ENC is a word of that opcode. -/
theorem commandWord_of_and_top {w : CmdWord} {op : BitVec 4}
    (h : w &&& 0xFF00000000000000 = commandWord op 0 0 0) :
    commandWord op (fieldA w) (fieldB w) (fieldN w) = w := by
  have hr : fieldRsv w = 0 := (extractLsb'_of_and_eq h 56 (by decide)).trans (fieldRsv_commandWord ..)
  have hop : fieldOp w = op := (extractLsb'_of_and_eq h 60 (by decide)).trans (fieldOp_commandWord ..)
  exact commandWord_eq_of_fields hr (congrArg _ hop) rfl rfl rfl

/-- A word with the match value of a row of format F_N is a word of that opcode and format. -/
theorem commandWord_of_and_low {w : CmdWord} {op : BitVec 4}
    (h : w &&& 0xFFFFFFFFFFFFFF00 = commandWord op 0 0 0) : commandWord op 0 0 (fieldN w) = w := by
  have hr : fieldRsv w = 0 := (extractLsb'_of_and_eq h 56 (by decide)).trans (fieldRsv_commandWord ..)
  have hop : fieldOp w = op := (extractLsb'_of_and_eq h 60 (by decide)).trans (fieldOp_commandWord ..)
  have ha : fieldA w = 0 := (extractLsb'_of_and_eq h 32 (by decide)).trans (fieldA_commandWord ..)
  have hb : fieldB w = 0 := (extractLsb'_of_and_eq h 8 (by decide)).trans (fieldB_commandWord ..)
  exact commandWord_eq_of_fields hr (congrArg _ hop) ha hb rfl

/-- A word whose opcode, RSV and F_BUF zero fields are masked in and match is a word of format F_BUF. -/
theorem commandWord_of_and_buf {w m : CmdWord} {op : BitVec 4} (h : w &&& m = commandWord op 0 0 0)
    (hm : m &&& 0xFFFFFFFCFFFF0000 = 0xFFFFFFFCFFFF0000) :
    commandWord op ((spaceCodeBits (fieldSp w)).setWidth 24) ((fieldIdx w).setWidth 24) (fieldN w) = w := by
  replace h : w &&& 0xFFFFFFFCFFFF0000 = commandWord op 0 0 0 := by
    rw [← hm, ← BitVec.and_assoc, h]
    exact Laws.commandWord_and_buf op 0 0 0
  have hr : fieldRsv w = 0 := (extractLsb'_of_and_eq h 56 (by decide)).trans (fieldRsv_commandWord ..)
  have hop : fieldOp w = op := (extractLsb'_of_and_eq h 60 (by decide)).trans (fieldOp_commandWord ..)
  have hz : bufZeroFields w = true := by
    obtain ⟨ha, hb⟩ := bufZeroFields_iff.1 (bufZeroFields_commandWord op .pay 0 0)
    exact bufZeroFields_iff.2 ⟨(extractLsb'_of_and_eq h 34 (by decide)).trans ha,
      (extractLsb'_of_and_eq h 16 (by decide)).trans hb⟩
  exact commandWord_eq_of_fields hr (congrArg _ hop) (fieldA_of_bufZeroFields hz) (fieldB_of_bufZeroFields hz) rfl

/-- A word that a row covers is the word of a command with the row's mnemonic. -/
theorem exists_encode_of_covers {r : OpRow} {w : CmdWord} (hr : r ∈ opTable) (h : r.covers w = true) :
    ∃ i, encode i = w ∧ i.mnemonic = r.mnemonic := by
  simp only [opTable, List.mem_cons, List.not_mem_nil, or_false] at hr
  replace h : w &&& r.mask = r.bits := of_decide_eq_true h
  rcases hr with rfl | rfl | rfl | rfl | rfl | rfl | rfl | rfl
  · exact ⟨.encode (fieldA w) (fieldB w) (fieldN w), commandWord_of_and_top h, rfl⟩
  · exact ⟨.decode (fieldN w), commandWord_of_and_low h, rfl⟩
  · exact ⟨.reset, ((BitVec.and_allOnes).symm.trans h).symm, rfl⟩
  · exact ⟨.send (fieldN w), commandWord_of_and_low h, rfl⟩
  · exact ⟨.receive (fieldN w), commandWord_of_and_low h, rfl⟩
  · exact ⟨.readreg (fieldN w), commandWord_of_and_low h, rfl⟩
  · exact ⟨.bufwr (fieldSp w) (fieldIdx w) (fieldN w), commandWord_of_and_buf h (by decide), rfl⟩
  · have hn : fieldN w = 0 := (extractLsb'_of_and_eq h 0 (by decide)).trans (fieldN_commandWord 8 0 0 0)
    refine ⟨.bufrd (fieldSp w) (fieldIdx w), ?_, rfl⟩
    have hw := commandWord_of_and_buf (m := 0xFFFFFFFCFFFF00FF) (op := 8) h (by decide)
    rwa [hn] at hw

/-- Every command's word is covered by the row of its mnemonic. -/
theorem encodeMatchesRow (i : Instr) : Laws.EncodeMatchesRow.Statement i := by
  cases i with
  | encode t s r => exact Laws.EncodeMatchesRow.encode t s r
  | decode n => exact Laws.EncodeMatchesRow.decode n
  | reset => exact Laws.EncodeMatchesRow.reset
  | send n => exact Laws.EncodeMatchesRow.send n
  | receive c => exact Laws.EncodeMatchesRow.receive c
  | readreg a => exact Laws.EncodeMatchesRow.readreg a
  | bufwr sp idx d => exact Laws.EncodeMatchesRow.bufwr sp idx d
  | bufrd sp idx => exact Laws.EncodeMatchesRow.bufrd sp idx

/-- Every row of the table has a mnemonic of its own. -/
theorem opTable_mnemonic_injective :
    ∀ r ∈ opTable, ∀ r' ∈ opTable, r.mnemonic = r'.mnemonic → r = r' := by decide

/-- A row covers exactly the words of the commands with its mnemonic. -/
theorem covers_iff {r : OpRow} (hr : r ∈ opTable) (w : CmdWord) :
    r.covers w = true ↔ ∃ i, decode w = .ok i ∧ i.mnemonic = r.mnemonic := by
  simp only [decode_eq_ok_iff]
  constructor
  · exact exists_encode_of_covers hr
  · rintro ⟨i, rfl, hi⟩
    obtain ⟨r', hr', hm, hc⟩ := encodeMatchesRow i
    rwa [opTable_mnemonic_injective r hr r' hr' (hi.symm.trans hm.symm)]

/-- Settles O4: two rows that cover one word have the mnemonic of the command it decodes to, and no two rows
share a mnemonic. -/
theorem opcodeRowsAreDisjoint : Obligations.OpcodeRowsAreDisjoint := by
  intro w r r' hr hr' h h'
  obtain ⟨i, hi, hm⟩ := (covers_iff hr w).1 h
  obtain ⟨i', hi', hm'⟩ := (covers_iff hr' w).1 h'
  obtain rfl : i = i' := Except.ok.inj (hi.symm.trans hi')
  exact opTable_mnemonic_injective r hr r' hr' (hm.symm.trans hm')

/-- The row that the table gives for a word is one of its rows, and covers the word. -/
theorem covers_of_opRowOf {w : CmdWord} {r : OpRow} (h : opRowOf w = some r) :
    r ∈ opTable ∧ r.covers w = true := by
  unfold opRowOf at h
  exact ⟨List.mem_of_find?_eq_some h, by simpa using List.find?_some h⟩

/-- "First match wins" finds the one row that covers the word (R55). -/
theorem opRowOf_eq_some_iff {w : CmdWord} {r : OpRow} :
    opRowOf w = some r ↔ r ∈ opTable ∧ r.covers w = true := by
  refine ⟨covers_of_opRowOf, fun ⟨hr, hc⟩ => ?_⟩
  cases hf : opRowOf w with
  | none => exact absurd hc (List.find?_eq_none.1 hf r hr)
  | some r' =>
    obtain ⟨hr', hc'⟩ := covers_of_opRowOf hf
    rw [opcodeRowsAreDisjoint w r' r hr' hr hc' hc]

/-- Settles O3: a legal word is covered by its command's row, which is the first; an illegal one by none. -/
theorem decoderAgreesWithMaskTable : Obligations.DecoderAgreesWithMaskTable := by
  intro w
  cases hd : decode w with
  | ok i =>
    obtain ⟨r, hr, hm, hc⟩ := encodeMatchesRow i
    rw [decode_eq_ok_iff.1 hd] at hc
    simp [opRowOf_eq_some_iff.2 ⟨hr, hc⟩, hm, Except.toOption]
  | error e =>
    have hnone : opRowOf w = none := by
      rw [Option.eq_none_iff_forall_ne_some]
      intro r h
      obtain ⟨hr, hc⟩ := covers_of_opRowOf h
      obtain ⟨i, hi, _⟩ := (covers_iff hr w).1 hc
      simp [hd] at hi
    simp [hnone, Except.toOption]

/-! ### Illegal words (R56) -/

/-- What the decoder rejects, by field: an opcode outside 1 to 8, RSV, or a field that the format of the opcode
marks 0. -/
theorem decode_error_iff (w : CmdWord) :
    (∃ e, decode w = .error e) ↔
      (fieldOp w).toNat = 0 ∨ 9 ≤ (fieldOp w).toNat ∨ fieldRsv w ≠ 0 ∨
      ((fieldOp w).toNat ∈ [2, 4, 5, 6] ∧ abZero w = false) ∨
      ((fieldOp w).toNat = 3 ∧ (abZero w && fieldN w = 0) = false) ∨
      ((fieldOp w).toNat = 7 ∧ bufZeroFields w = false) ∨
      ((fieldOp w).toNat = 8 ∧ (bufZeroFields w && fieldN w = 0) = false) := by
  by_cases hr : fieldRsv w = 0
  · simp only [decode, hr, ne_eq, not_true_eq_false, if_false, false_or]
    split
    case h_1 hop => simp [hop]
    case h_2 hop | h_3 hop | h_4 hop | h_5 hop | h_6 hop | h_7 hop | h_8 hop =>
      rw [requireZero_eq_error]
      simp [hop]
    case h_9 h1 h2 h3 h4 h5 h6 h7 h8 =>
      simp only [imp_false] at h1 h2 h3 h4 h5 h6 h7 h8
      have hop : (fieldOp w).toNat = 0 ∨ 9 ≤ (fieldOp w).toNat := by omega
      rcases hop with hop | hop <;> simp [hop]
  · have hd : decode w = .error .reservedNotZero := by rw [decode, if_pos hr]
    exact ⟨fun _ => .inr (.inr (.inl hr)), fun _ => ⟨_, hd⟩⟩

/-- OP read with a shift (R52). -/
theorem toNat_shift_op (w : CmdWord) : (w >>> 60).toNat = (fieldOp w).toNat := by
  have h : w.toNat >>> 60 < 2 ^ 4 := by have := w.isLt; rw [Nat.shiftRight_eq_div_pow]; omega
  rw [fieldOp, BitVec.extractLsb'_toNat, BitVec.toNat_ushiftRight, Nat.mod_eq_of_lt h]

/-- Settles O5: the shifts and masks read the fields that `decode_error_iff` tests. -/
theorem illegalWordsExactly : Obligations.IllegalWordsExactly := by
  intro w
  have hrsv : w >>> 56 &&& 0xF = 0 ↔ fieldRsv w = 0 := shift_and_mask_eq_zero_iff w 56 (l := 4) (by decide)
  have hn : w &&& 0xFF = 0 ↔ fieldN w = 0 := shift_and_mask_eq_zero_iff w 0 (l := 8) (by decide)
  have hab : w >>> 8 &&& 0xFFFFFFFFFFFF = 0 ↔ abZero w = true :=
    (shift_and_mask_eq_zero_iff w 8 (l := 48) (by decide)).trans abZero_iff_extractLsb'.symm
  have habn : w &&& 0xFFFFFFFFFFFFFF = 0 ↔ (abZero w && fieldN w = 0) = true :=
    (shift_and_mask_eq_zero_iff w 0 (l := 56) (by decide)).trans abZero_and_fieldN_iff.symm
  have hbuf : bufZeroFields w = true ↔ w >>> 34 &&& 0x3FFFFF = 0 ∧ w >>> 16 &&& 0xFFFF = 0 :=
    bufZeroFields_iff.trans (and_congr (shift_and_mask_eq_zero_iff w 34 (l := 22) (by decide)).symm
      (shift_and_mask_eq_zero_iff w 16 (l := 16) (by decide)).symm)
  rw [decode_error_iff]
  simp only [BitVec.toNat_eq (x := w >>> 60), toNat_shift_op, ne_eq, hrsv, hab, habn, hn,
    ← Bool.not_eq_true, hbuf, Bool.and_eq_true, decide_eq_true_iff, not_and_or, or_assoc]
  rfl

end Sys2Proof

namespace Sys2Proof.Machine

/-- Settles O7: between commands with a word waiting, `step` is `runWord` of it. -/
theorem stepRunsTheDecodedCommand : Obligations.StepRunsTheDecodedCommand := by
  intro s w ws i hw hq hh hd
  rw [step_word hw hq hh, runWord, hd]

/-! ### The init table (R67, R92) -/

/-- The init table with these records, and the bytes after its terminator (R67). -/
def initTable (records : List (List Byte)) (tail : List Byte) : List Byte :=
  records.flatMap (fun r => BitVec.ofNat 8 r.length :: r) ++ 0 :: tail

@[simp] theorem initTable_nil (tail : List Byte) : initTable [] tail = 0 :: tail := rfl

@[simp] theorem initTable_cons (r : List Byte) (records : List (List Byte)) (tail : List Byte) :
    initTable (r :: records) tail = BitVec.ofNat 8 r.length :: (r ++ initTable records tail) := by
  simp [initTable]

/-- The walk from an index on sees only the bytes from there on. -/
theorem initWalk_drop {rom : List Byte} {k : Nat} (hk : k ≤ rom.length) (turns itp : Nat) :
    initWalk rom turns (k + itp) = initWalk (rom.drop k) turns itp := by
  induction turns generalizing itp with
  | zero => rfl
  | succ turns ih =>
    have hfits (n : Nat) : k + (itp + (1 + n)) ≤ rom.length ↔ itp + (1 + n) ≤ (rom.drop k).length := by
      rw [List.length_drop]; omega
    simp only [initWalk, List.getElem?_drop, List.drop_drop, hfits, Nat.add_assoc, ih]

/-- No walk ends in an empty table: it runs off the end (R67). -/
@[simp] theorem initWalk_nil (turns : Nat) : initWalk [] turns 0 = none := by
  cases turns <;> rfl

/-- One turn of the walk, on the bytes that are left: the terminator, or a record and the walk of the rest. -/
theorem initWalk_cons (n : Byte) (rest : List Byte) (turns : Nat) :
    initWalk (n :: rest) (turns + 1) 0 =
      if n = 0 then some []
      else if n.toNat ≤ rest.length then
        (initWalk (rest.drop n.toNat) turns 0).map (rest.take n.toNat :: ·)
      else none := by
  have hfits : 0 + 1 + n.toNat ≤ (n :: rest).length ↔ n.toNat ≤ rest.length := by
    rw [List.length_cons]; omega
  by_cases hlen : n.toNat ≤ rest.length
  · have hk : 0 + 1 + n.toNat ≤ (n :: rest).length := hfits.2 hlen
    have hrest := initWalk_drop hk turns 0
    rw [show 0 + 1 + n.toNat = n.toNat + 1 by omega, Nat.add_zero, List.drop_succ_cons] at hrest
    simp [initWalk, hlen, hrest, Nat.add_comm 1]
  · simp [initWalk, hlen, Nat.add_comm 1]

/-- A record's length byte gives back its length (R67). -/
theorem toNat_lengthByte {r : List Byte} (hr : 1 ≤ r.length ∧ r.length ≤ 255) :
    (BitVec.ofNat 8 r.length).toNat = r.length := by
  rw [BitVec.toNat_ofNat]
  omega

/-- The walk of a table, with a turn for each of its bytes, gives the table's records. -/
theorem initWalk_initTable {records : List (List Byte)} (hr : ∀ r ∈ records, 1 ≤ r.length ∧ r.length ≤ 255)
    (tail : List Byte) {turns : Nat} (ht : (initTable records tail).length ≤ turns) :
    initWalk (initTable records tail) turns 0 = some records := by
  induction records generalizing turns with
  | nil =>
    obtain ⟨turns, rfl⟩ : ∃ t, turns = t + 1 := ⟨turns - 1, by simp at ht; omega⟩
    simp [initWalk_cons]
  | cons r records ih =>
    rw [List.forall_mem_cons] at hr
    obtain ⟨hlen, hrecords⟩ := hr
    rw [initTable_cons, List.length_cons, List.length_append] at ht
    obtain ⟨turns, rfl⟩ : ∃ t, turns = t + 1 := ⟨turns - 1, by omega⟩
    have hn := toNat_lengthByte hlen
    have hne : BitVec.ofNat 8 r.length ≠ 0 := by
      intro h0
      have : r.length = 0 := by rw [← hn, h0]; rfl
      omega
    rw [initTable_cons, initWalk_cons, if_neg hne, hn, if_pos (by simp), List.drop_left, List.take_left,
      ih hrecords (by omega)]
    rfl

/-- What the walk accepts is a table with the records it gives (R67). -/
theorem exists_initTable_of_initWalk {rom : List Byte} {turns : Nat} {records : List (List Byte)}
    (h : initWalk rom turns 0 = some records) :
    (∀ r ∈ records, 1 ≤ r.length ∧ r.length ≤ 255) ∧ ∃ tail, rom = initTable records tail := by
  induction turns generalizing rom records with
  | zero => simp [initWalk] at h
  | succ turns ih =>
    cases rom with
    | nil => simp at h
    | cons n rest =>
      rw [initWalk_cons] at h
      split_ifs at h with hn hlen
      · obtain rfl := Option.some.inj h
        exact ⟨by simp, rest, by rw [hn, initTable_nil]⟩
      · obtain ⟨records, hwalk, rfl⟩ := Option.map_eq_some_iff.1 h
        obtain ⟨hrecords, tail, htail⟩ := ih hwalk
        have hl : (rest.take n.toNat).length = n.toNat := List.length_take_of_le hlen
        have hpos : n.toNat ≠ 0 := fun h0 => hn (BitVec.eq_of_toNat_eq h0)
        have hlt := n.isLt
        refine ⟨List.forall_mem_cons.2 ⟨by omega, hrecords⟩, tail, ?_⟩
        rw [initTable_cons, hl, BitVec.ofNat_toNat, BitVec.setWidth_eq, ← htail, List.take_append_drop]

/-- Settles O34: INIT_ROM has a turn for each of its bytes, so `initWalk_initTable` gives the one direction and
`exists_initTable_of_initWalk` the other. -/
theorem initTableWalkReadsItsFormat : Obligations.InitTableWalkReadsItsFormat :=
  ⟨fun _ tail hr => initWalk_initTable hr tail le_rfl, fun _ _ => exists_initTable_of_initWalk⟩

/-! ### The assembler (R69, R70) -/

/-- Each result of a `mapM` that succeeds comes from an element of the list. -/
theorem exists_of_mem_mapM {α β : Type} {f : α → Option β} {l : List α} {ys : List β} (h : l.mapM f = some ys)
    {y : β} (hy : y ∈ ys) : ∃ x ∈ l, f x = some y := by
  induction l generalizing ys with
  | nil =>
    obtain rfl := Option.some.inj h
    exact absurd hy List.not_mem_nil
  | cons x l ih =>
    simp only [List.mapM_cons, Option.pure_def, Option.bind_eq_bind, Option.bind_eq_some_iff,
      Option.some.injEq] at h
    obtain ⟨z, hz, zs, hzs, rfl⟩ := h
    rcases List.mem_cons.1 hy with rfl | hy
    · exact ⟨x, List.mem_cons_self, hz⟩
    · obtain ⟨x', hx', hf⟩ := ih hzs hy
      exact ⟨x', List.mem_cons_of_mem _ hx', hf⟩

/-- Every word of an assembled line is the word of a command (R69). -/
theorem AsmLine.exists_encode_of_assemble {l : AsmLine} {ws : List CmdWord} (h : l.assemble = some ws)
    {w : CmdWord} (hw : w ∈ ws) : ∃ i, Sys2Proof.encode i = w := by
  obtain ⟨ls, _, hls⟩ := Option.bind_eq_some_iff.1 h
  obtain ⟨p, _, hp⟩ := exists_of_mem_mapM hls hw
  obtain ⟨i, _, hi⟩ := Option.map_eq_some_iff.1 hp
  exact ⟨i, hi⟩

/-- A text that assembles to a word is a line of R69 or R70 that does. -/
theorem exists_line_of_assembleText {text : String} {ws : List CmdWord} (h : assembleText text = some ws)
    {w : CmdWord} (hw : w ∈ ws) : ∃ l : AsmLine, l.assemble = some ws := by
  unfold assembleText at h
  split at h
  · obtain rfl := Option.some.inj h
    exact absurd hw List.not_mem_nil
  · obtain ⟨l, _, hl⟩ := Option.bind_eq_some_iff.1 h
    exact ⟨l, hl⟩

/-- Settles O55: the assembler emits words of commands alone, and the decoder reads each of them. -/
theorem assemblerGivesLegalWords : Obligations.AssemblerGivesLegalWords := by
  intro text ws h w hw
  obtain ⟨l, hl⟩ := exists_line_of_assembleText h hw
  obtain ⟨i, rfl⟩ := AsmLine.exists_encode_of_assemble hl hw
  exact ⟨i, decode_encode i⟩

/-- A field's own value fits it. -/
theorem fits_toNat {v : Nat} (x : BitVec v) : fits v x.toNat = true := decide_eq_true x.isLt

/-- SENDPKT with operands that fit is the word of ENCODE and the word of SEND (R70). -/
theorem assemble_sendpkt (t src : Addr) (r : Byte) {l : Nat} (hlen : sendpktLength t.toNat src.toNat r.toNat = some l)
    (hl : l < 2 ^ 8) :
    (AsmLine.sendpkt t.toNat src.toNat r.toNat).assemble =
      some [Sys2Proof.encode (.encode t src r), Sys2Proof.encode (.send (BitVec.ofNat 8 l))] := by
  have hfits : fits 8 l = true := decide_eq_true hl
  simp [AsmLine.assemble, AsmLine.expand, AsmLine.command, hlen, fits_toNat, hfits]

/-- A requested length of at most 64 has a bucket (R62). -/
theorem lenCode_isSome {r : Nat} (h : r ≤ 64) : ∃ code wl, lenCode r = some (code, wl) := by
  unfold lenCode
  split_ifs <;> exact ⟨_, _, rfl⟩

/-- A frame is at most MAX_FRAME bytes long (R58, R65). -/
theorem frameLength_le (t src : Addr) {r code wl : Nat} (h : lenCode r = some (code, wl)) :
    3 + abcTarget t + abcSource src + wl ≤ Config.maxFrame := by
  have hp := length_buildFrame_le t src code (payload := List.replicate wl 0)
    (by simpa using wireLength_le_of_lenCode h)
  simpa [length_buildFrame] using hp

/-- ENCODE of a length that has a bucket leaves the frame's length in R_DATA (R76). -/
theorem exec_encode_rData {t src : Addr} {r : Byte} {code wl : Nat} (h : lenCode r.toNat = some (code, wl))
    (s : State) :
    ∃ s', exec (.encode t src r) s = .next s' ∧
      s'.rData = BitVec.ofNat 8 (3 + abcTarget t + abcSource src + wl) := by
  obtain ⟨s', hs'⟩ := exec_next (.encode t src r) s
  refine ⟨s', hs', ?_⟩
  rcases execEncode_cases hs' with ⟨hnone, _⟩ | ⟨code', wl', hcode, rfl⟩
  · simp [h] at hnone
  · obtain ⟨rfl, rfl⟩ : code = code' ∧ wl = wl' := by simpa [h] using hcode
    rw [State.finish_rData]

/-- Settles O56: both sides take the length from the same bucket, and it fits SEND's operand. -/
theorem sendpktSendsTheEncodedFrame : Obligations.SendpktSendsTheEncodedFrame := by
  intro t src r s hr
  obtain ⟨code, wl, hcode⟩ := lenCode_isSome hr
  obtain ⟨s', hs', hdata⟩ := exec_encode_rData (t := t) (src := src) hcode s
  have hlen : sendpktLength t.toNat src.toNat r.toNat = some (3 + abcTarget t + abcSource src + wl) := by
    simp [sendpktLength, hcode]
  have hle := frameLength_le t src hcode
  refine ⟨s', hs', ?_⟩
  rw [hdata]
  exact assemble_sendpkt t src r hlen (by unfold Config.maxFrame at hle; omega)

end Sys2Proof.Machine

/-! The codec family (40_codec.md): addresses as byte fields (O22 to O24), the length buckets (O25), what ENCODE
writes (O26 to O28), what DECODE reads (O29 to O32), and that the one reads back what the other wrote (O33). -/

namespace Sys2Proof.Machine

/-! ### Addresses as byte fields (R71 to R73) -/

/-- An address has at most `k` bytes exactly when it fits `k` bytes (R71). -/
theorem abc_le_iff (v : Addr) (k : Nat) : abc v ≤ k ↔ v.toNat < 2 ^ (8 * k) := by
  rcases Nat.lt_or_ge k 3 with hk | hk
  · unfold abc
    interval_cases k <;> split_ifs <;> omega
  · have hpow : 2 ^ 24 ≤ 2 ^ (8 * k) := Nat.pow_le_pow_right (by omega) (by omega)
    exact iff_of_true ((abc_le_three v).trans hk) (v.isLt.trans_le hpow)

/-- A target field has at most 3 bytes (R71). -/
theorem abcTarget_le (v : Addr) : abcTarget v ≤ 3 := abc_le_three v

/-- A source field has 1 to 3 bytes (R71). -/
theorem abcSource_range (v : Addr) : 1 ≤ abcSource v ∧ abcSource v ≤ 3 :=
  ⟨le_max_left _ _, max_le (by omega) (abc_le_three v)⟩

/-- An address needs its `k`-th byte exactly when shifting the bytes below it out leaves something (R71). -/
theorem le_abc_iff_shiftRight_ne_zero (v : Addr) {k : Nat} (hk : 1 ≤ k) :
    k ≤ abc v ↔ v.toNat >>> (8 * (k - 1)) ≠ 0 := by
  have hfit := abc_le_iff v (k - 1)
  rw [Nat.shiftRight_eq_div_pow, Ne, Nat.div_eq_zero_iff_lt (Nat.two_pow_pos _)]
  omega

/-- Settles O22: `abc_le_iff` says that `abc` is the least count that fits. -/
theorem addressByteCountIsLeast : Obligations.AddressByteCountIsLeast := fun v =>
  ⟨abc_le_three v, (abc_le_iff v _).1 le_rfl, fun k => (abc_le_iff v k).2,
    fun _ hk _ => le_abc_iff_shiftRight_ne_zero v hk, rfl, rfl⟩

/-- One byte of a field (R72). -/
theorem getElem?_pack (v : Addr) {k i : Nat} (hi : i < k) :
    (pack v k)[i]? = some (BitVec.ofNat 8 (v.toNat >>> (8 * (k - 1 - i)))) := by
  simp [pack, hi]

/-- Settles O23: `length_pack`, and the byte that `getElem?_pack` names is masked to 8 bits. -/
theorem packedBytesMostSignificantFirst : Obligations.PackedBytesMostSignificantFirst := by
  intro v k _ _
  refine ⟨length_pack v k, fun i hi => ?_⟩
  rw [getElem?_pack v hi, Option.map_some, BitVec.toNat_ofNat, Nat.and_two_pow_sub_one_eq_mod _ 8]

/-- A field of one byte more begins with the next byte up (R72). -/
theorem pack_succ (v : Addr) (k : Nat) :
    pack v (k + 1) = BitVec.ofNat 8 (v.toNat >>> (8 * k)) :: pack v k := by
  simp [pack, List.range_succ_eq_map, Function.comp_def, Nat.sub_add_eq, Nat.sub_right_comm]

/-- A field of `k` bytes spells the low `k` bytes of its address (R72, R73). -/
theorem bigEndian_pack (v : Addr) (k : Nat) : bigEndian (pack v k) = v.toNat % 2 ^ (8 * k) := by
  induction k with
  | zero => simp [pack, bigEndian, Nat.mod_one]
  | succ k ih =>
    rw [pack_succ, bigEndian, ih, length_pack, BitVec.toNat_ofNat, Nat.shiftRight_eq_div_pow,
      Nat.mul_add, Nat.pow_add, Nat.mod_mul]
    ring

/-- A field with room for its address reads back as the address, also when it is longer than it need be
(R73). -/
theorem unpack_pack {v : Addr} {k : Nat} (h : abc v ≤ k) : unpack (pack v k) = v := by
  rw [unpack, bigEndian_pack, Nat.mod_eq_of_lt ((abc_le_iff v k).1 h), BitVec.ofNat_toNat, BitVec.setWidth_eq]

/-- The number that bytes spell is the sum of the bytes shifted into place (R73). -/
theorem bigEndian_eq_sum (bs : List Byte) :
    bigEndian bs =
      ((List.range bs.length).map fun i => (bs.getD i 0).toNat <<< (8 * (bs.length - 1 - i))).sum := by
  induction bs with
  | nil => rfl
  | cons b bs ih =>
    rw [bigEndian, ih, List.length_cons, List.range_succ_eq_map, List.map_cons, List.sum_cons, List.map_map]
    simp [Nat.shiftLeft_eq, Function.comp_def, Nat.sub_add_eq, Nat.sub_right_comm]

/-- At most 3 bytes lose nothing in 24 bits (R73). -/
theorem toNat_unpack {bs : List Byte} (h : bs.length ≤ 3) : (unpack bs).toNat = bigEndian bs := by
  have hpow : 2 ^ (8 * bs.length) ≤ 2 ^ 24 := Nat.pow_le_pow_right (by omega) (by omega)
  rw [unpack, BitVec.toNat_ofNat, Nat.mod_eq_of_lt ((bigEndian_lt bs).trans_le hpow)]

/-- Settles O24: `toNat_unpack` with `bigEndian_eq_sum`, R73's two examples, and `unpack_pack`. -/
theorem unpackInvertsPack : Obligations.UnpackInvertsPack :=
  ⟨fun bs h => (toNat_unpack h).trans (bigEndian_eq_sum bs), rfl, rfl, fun _ _ h _ => unpack_pack h⟩

/-- The address that the statements read off a buffer is the one the model unpacks (R73). -/
theorem addressAt_eq_unpack (buf : Nat → Byte) (i k : Nat) :
    Spec.addressAt buf i k = unpack ((List.range k).map fun j => buf (i + j)) := by
  rw [unpack, bigEndian_eq_sum, Spec.addressAt, List.length_map, List.length_range]
  congr 2
  apply List.map_congr_left
  intro j hj
  simp [List.mem_range.1 hj]

/-! ### Length buckets (R62, R63, R74) -/

/-- The inverse of the buckets, in the statements' words (R63). -/
theorem wireLen_eq_some {c : Nat} (h : c ≤ 11) : wireLen c = some (Spec.wireLength c) := by
  unfold wireLen Spec.wireLength
  grind

/-- The codes that have no wire length (R63). -/
theorem wireLen_eq_none {c : Nat} (h : 12 ≤ c) : wireLen c = none := by
  simp [wireLen, show ¬ c ≤ 8 by omega, show c ≠ 9 by omega, show c ≠ 10 by omega, show c ≠ 11 by omega]

/-- What a bucket promises: a valid code, whose wire length is at least the requested one (R74). -/
theorem lenCode_bucket {r code wl : Nat} (h : lenCode r = some (code, wl)) :
    code ≤ 11 ∧ wireLen code = some wl ∧ r ≤ wl := by
  unfold lenCode at h
  split_ifs at h <;> cases h
  · exact ⟨by omega, by simp [wireLen, *], le_rfl⟩
  · exact ⟨by omega, rfl, by omega⟩
  · exact ⟨by omega, rfl, by omega⟩
  · exact ⟨by omega, rfl, by omega⟩

/-- A requested length above 64 overflows (R62). -/
theorem lenCode_eq_none {r : Nat} (h : 64 < r) : lenCode r = none := by
  simp [lenCode, show ¬ r ≤ 8 by omega, show ¬ r ≤ 16 by omega, show ¬ r ≤ 32 by omega, show ¬ r ≤ 64 by omega]

/-- Settles O25: the tables row by row, and `lenCode_bucket`. -/
theorem lengthBucketsRoundUp : Obligations.LengthBucketsRoundUp := by
  refine ⟨fun r h => ?_, fun r h h' => ?_, fun r h h' => ?_, fun r h h' => ?_, fun r => lenCode_eq_none,
    fun c h => ?_, rfl, rfl, rfl, fun c => wireLen_eq_none, fun r code wl h => ?_⟩
  · simp [lenCode, h]
  · simp [lenCode, h', show ¬ r ≤ 8 by omega]
  · simp [lenCode, h', show ¬ r ≤ 8 by omega, show ¬ r ≤ 16 by omega]
  · simp [lenCode, h', show ¬ r ≤ 8 by omega, show ¬ r ≤ 16 by omega, show ¬ r ≤ 32 by omega]
  · simp [wireLen, h]
  · obtain ⟨-, hwl, hr⟩ := lenCode_bucket h
    exact ⟨hwl, hr, wireLength_le_of_lenCode h⟩

/-! ### The header bytes (R60, R61)

The statements read the header with shifts and masks, the model with bit fields: a byte has 256 values. -/

theorem toNat_hdb2Dab (h : Byte) : (hdb2Dab h).toNat = Spec.dab h := by revert h; decide

theorem toNat_hdb2Sab (h : Byte) : (hdb2Sab h).toNat = Spec.sab h := by revert h; decide

theorem toNat_hdb1Code (h : Byte) : (hdb1Code h).toNat = Spec.lengthCode h := by revert h; decide

theorem hdb2Invalid_iff (h : Byte) :
    hdb2Invalid h = true ↔ (h &&& 0x0C ≠ 0 ∨ h &&& 0x03 ≠ 0) ∨ Spec.sab h = 0 := by revert h; decide

theorem hdb1Invalid_iff (h : Byte) :
    hdb1Invalid h = true ↔ h &&& 0x80 ≠ 0 ∨ h &&& 0x70 ≠ 0 ∨ Spec.lengthCode h = 15 := by revert h; decide

/-- The HDB2 of the encoder holds its two counts, and nothing in the low bits (R60). -/
theorem hdb2Of_fields : ∀ dab ≤ 3, ∀ sab ≤ 3,
    Spec.dab (hdb2Of dab sab) = dab ∧ Spec.sab (hdb2Of dab sab) = sab ∧ hdb2Of dab sab &&& 0x0F = 0 := by
  decide

/-- The HDB1 of the encoder holds its length code, and nothing in the high bits (R61). -/
theorem hdb1_fields : ∀ code ≤ 11,
    Spec.lengthCode (BitVec.ofNat 8 code) = code ∧ (BitVec.ofNat 8 code : Byte) &&& 0xF0 = 0 := by
  decide

/-- With a source byte, the encoder's HDB2 passes the decoder's checks (R77). -/
theorem hdb2Invalid_hdb2Of : ∀ dab ≤ 3, ∀ sab ≤ 3, 1 ≤ sab → hdb2Invalid (hdb2Of dab sab) = false := by
  decide

/-- A valid length code passes the decoder's checks of HDB1 (R77). -/
theorem hdb1Invalid_ofNat : ∀ code ≤ 11, hdb1Invalid (BitVec.ofNat 8 code) = false := by
  decide

/-! ### ENCODE -/

/-- ENCODE of a length that has no bucket (R76). -/
theorem exec_encode_overflow (t src : Addr) {r : Byte} (h : lenCode r.toNat = none) (s : State) :
    exec (.encode t src r) s = .next (s.raise .lengthOverflow) := by
  simp only [exec, execEncode, h]

/-- Settles O27: a length above 64 has no bucket. -/
theorem encodeOverflowWritesOnlyStatus : Obligations.EncodeOverflowWritesOnlyStatus :=
  fun t src _ s hr => exec_encode_overflow t src (lenCode_eq_none hr) s

/-- The frame that ENCODE writes in a state: its payload is the first bytes of PAY_BUF, padding included (R76). -/
def State.frame (s : State) (t src : Addr) (code wl : Nat) : List Byte :=
  buildFrame t src code (s.memRead .pay 0 wl)

/-- The length of the frame (R65). -/
@[simp] theorem State.length_frame (s : State) (t src : Addr) (code wl : Nat) :
    (s.frame t src code wl).length = 3 + abcTarget t + abcSource src + wl := by
  rw [State.frame, length_buildFrame, State.length_memRead]

/-- The state that ENCODE of a length with a bucket ends in (R76). -/
def State.encoded (s : State) (t src : Addr) (code wl : Nat) : State :=
  ({ s.memWrite .tx 0 (s.frame t src code wl) with
    rData := BitVec.ofNat 8 (s.frame t src code wl).length } : State).finish

/-- ENCODE of a length that has a bucket (R76). -/
theorem exec_encode {t src : Addr} {r : Byte} {code wl : Nat} (h : lenCode r.toNat = some (code, wl)) (s : State) :
    exec (.encode t src r) s = .next (s.encoded t src code wl) := by
  simp only [exec, execEncode, h, State.encoded, State.length_frame]
  rfl

/-- ENCODE writes R_DATA, TX_BUF and the status, and nothing else (R76). -/
theorem State.encoded_eq (s : State) (t src : Addr) (code wl : Nat) :
    s.encoded t src code wl = { s with
      txBuf := (s.encoded t src code wl).txBuf
      rData := (s.encoded t src code wl).rData
      code := 0
      seq := .idle } := rfl

/-- TX_BUF after ENCODE, byte by byte (R76). -/
theorem State.readByte_encoded (s : State) (t src : Addr) (code wl a : Nat) :
    (s.encoded t src code wl).readByte .tx a =
      if a < (s.frame t src code wl).length then (s.frame t src code wl).getD a 0 else s.readByte .tx a := by
  have hcells : (s.encoded t src code wl).readByte .tx a =
      (s.memWrite .tx 0 (s.frame t src code wl)).readByte .tx a := State.readByte_congr rfl a
  rw [hcells, State.readByte_memWrite]
  simp

/-- TX_BUF after ENCODE begins with the frame (R76). -/
theorem State.memRead_encoded (s : State) (t src : Addr) (code wl : Nat) :
    (s.encoded t src code wl).memRead .tx 0 (s.frame t src code wl).length = s.frame t src code wl := by
  have hcells : (s.encoded t src code wl).memRead .tx 0 (s.frame t src code wl).length =
      (s.memWrite .tx 0 (s.frame t src code wl)).memRead .tx 0 (s.frame t src code wl).length :=
    List.map_congr_left fun j _ => State.readByte_congr rfl (0 + j)
  rw [hcells, State.memRead_memWrite]

/-- R_DATA after ENCODE is the length of the frame, which fits a byte (R76). -/
theorem State.toNat_rData_encoded (s : State) (t src : Addr) {r code wl : Nat} (h : lenCode r = some (code, wl)) :
    (s.encoded t src code wl).rData.toNat = (s.frame t src code wl).length := by
  have hle := frameLength_le t src h
  rw [State.encoded, State.finish_rData, BitVec.toNat_ofNat, State.length_frame]
  unfold Config.maxFrame at hle
  omega

/-- Settles O26: ENCODE ends in `State.encoded`, whose frame is R58's. -/
theorem encodeWritesTheFrame : Obligations.EncodeWritesTheFrame := by
  intro t src r s code wl h
  have hlen := s.length_frame t src code wl
  refine ⟨s.encoded t src code wl, exec_encode h s, ?_, ?_, fun a ha => ?_, s.encoded_eq t src code wl⟩
  · rw [← hlen, State.memRead_encoded]
    rfl
  · rw [State.toNat_rData_encoded s t src h, hlen]
  · rw [State.readByte_encoded, if_neg (by omega)]

/-- The three header bytes in TX_BUF after ENCODE (R58). -/
theorem State.readByte_encoded_header (s : State) (t src : Addr) (code wl : Nat) :
    (s.encoded t src code wl).readByte .tx 0 = 0x54 ∧
    (s.encoded t src code wl).readByte .tx 1 = hdb2Of (abcTarget t) (abcSource src) ∧
    (s.encoded t src code wl).readByte .tx 2 = BitVec.ofNat 8 code := by
  simp only [State.readByte_encoded, State.length_frame]
  rw [if_pos (by omega), if_pos (by omega), if_pos (by omega)]
  exact ⟨rfl, rfl, rfl⟩

/-- Settles O28: the header is that of `State.readByte_encoded_header`, its counts at most 3, a source byte among
them, and its length code at most 11. -/
theorem encodedFramePassesHeaderChecks : Obligations.EncodedFramePassesHeaderChecks := by
  intro t src r s s' hr hexec
  obtain ⟨code, wl, hcode⟩ := lenCode_isSome hr
  rw [exec_encode hcode, Host.Outcome.next.injEq] at hexec
  subst hexec
  obtain ⟨hcode11, hwire, -⟩ := lenCode_bucket hcode
  obtain ⟨hsab1, hsab3⟩ := abcSource_range src
  obtain ⟨hdab, hsab, hlow⟩ := hdb2Of_fields _ (abcTarget_le t) _ hsab3
  obtain ⟨hlc, hhigh⟩ := hdb1_fields code hcode11
  have hwl : Spec.wireLength code = wl := Option.some.inj ((wireLen_eq_some hcode11).symm.trans hwire)
  have hlen : (s.encoded t src code wl).rData.toNat = 3 + abcTarget t + abcSource src + wl :=
    (s.toNat_rData_encoded t src hcode).trans (s.length_frame t src code wl)
  obtain ⟨h0, h1, h2⟩ := s.readByte_encoded_header t src code wl
  simp only [Spec.frameLength, h0, h1, h2, toNat_hdb1Code, hlc, hwl]
  refine ⟨trivial, hlow, by rwa [hsab], hhigh, hcode11, ?_, ?_, hdb2Invalid_hdb2Of _ (abcTarget_le t) _ hsab3 hsab1,
    hdb1Invalid_ofNat code hcode11, hwire⟩
  · rw [hlen, hdab, hsab]
  · rw [hlen]
    exact frameLength_le t src hcode

/-! ### The tests of R78, in their order

`Spec.decodeStatus` case by case, in the model's words for the header bytes. -/

/-- The header bytes pass every check of DECODE (R78 steps 2 to 5). -/
structure HeaderOk (buf : Nat → Byte) : Prop where
  sync : buf 0 = Config.sync
  hdb2 : hdb2Invalid (buf 1) = false
  hdb1 : hdb1Invalid (buf 2) = false
  code : Spec.lengthCode (buf 2) ≤ 11

section
variable {size n : Nat} {buf : Nat → Byte} (myAddr : Addr)

theorem decodeStatus_outOfRange (h : size < n) : Spec.decodeStatus size myAddr n buf = .operandError := if_pos h

theorem decodeStatus_noHeader (hn : n ≤ size) (h : n < 3) : Spec.decodeStatus size myAddr n buf = .truncated := by
  rw [Spec.decodeStatus, if_neg (Nat.not_lt.2 hn), if_pos h]

theorem decodeStatus_invalidSync (hn : n ≤ size) (hn3 : 3 ≤ n) (h : buf 0 ≠ Config.sync) :
    Spec.decodeStatus size myAddr n buf = .invalidSync := by
  replace h : buf 0 ≠ 0x54 := h
  rw [Spec.decodeStatus, if_neg (Nat.not_lt.2 hn), if_neg (Nat.not_lt.2 hn3), if_pos h]

theorem decodeStatus_invalidHeader (hn : n ≤ size) (hn3 : 3 ≤ n) (hsync : buf 0 = Config.sync)
    (h : hdb2Invalid (buf 1) = true ∨ hdb1Invalid (buf 2) = true ∨ 12 ≤ Spec.lengthCode (buf 2)) :
    Spec.decodeStatus size myAddr n buf = .invalidHeader := by
  replace hsync : ¬ buf 0 ≠ 0x54 := not_not.2 hsync
  rw [Spec.decodeStatus, if_neg (Nat.not_lt.2 hn), if_neg (Nat.not_lt.2 hn3), if_neg hsync]
  rw [hdb2Invalid_iff, hdb1Invalid_iff] at h
  rcases h with (hlow | hsab) | hhdb1 | hcode
  · rw [if_pos hlow]
  · rw [if_pos hsab, ite_self]
  · rw [if_pos hhdb1, ite_self, ite_self]
  · rw [if_pos hcode, ite_self, ite_self, ite_self]

/-- With a valid header, the length tests and the filter are left (R78 from step 6 on). -/
theorem decodeStatus_of_headerOk (hn : n ≤ size) (hn3 : 3 ≤ n) (h : HeaderOk buf) :
    Spec.decodeStatus size myAddr n buf =
      if n < 3 + Spec.dab (buf 1) then .truncated
      else if ¬ (Spec.addressAt buf 3 (Spec.dab (buf 1)) = 0 ∨ Spec.addressAt buf 3 (Spec.dab (buf 1)) = myAddr)
      then .notForUs
      else if n < Spec.frameLength buf then .truncated
      else .ok := by
  have hsync : ¬ buf 0 ≠ 0x54 := not_not.2 h.sync
  obtain ⟨hlow, hsab⟩ := not_or.1 (mt (hdb2Invalid_iff _).2 (Bool.not_eq_true _ ▸ h.hdb2))
  have hhdb1 := mt (hdb1Invalid_iff _).2 (Bool.not_eq_true _ ▸ h.hdb1)
  have hcode := Nat.not_le.2 (Nat.lt_succ_of_le h.code)
  rw [Spec.decodeStatus, if_neg (Nat.not_lt.2 hn), if_neg (Nat.not_lt.2 hn3), if_neg hsync, if_neg hlow,
    if_neg hsab, if_neg hhdb1, if_neg hcode]

end

/-- An accepted frame lies in RX_BUF, has a valid header, and all of it has arrived (R78). -/
theorem headerOk_of_decodeStatus_ok {size n : Nat} {myAddr : Addr} {buf : Nat → Byte}
    (h : Spec.decodeStatus size myAddr n buf = .ok) :
    n ≤ size ∧ 3 ≤ n ∧ HeaderOk buf ∧ Spec.frameLength buf ≤ n := by
  have excludes {e : Status} (he : e ≠ .ok) : Spec.decodeStatus size myAddr n buf ≠ e := h ▸ he.symm
  have hn : n ≤ size := Nat.not_lt.1 fun hlt => excludes (by decide) (decodeStatus_outOfRange myAddr hlt)
  have hn3 : 3 ≤ n := Nat.not_lt.1 fun hlt => excludes (by decide) (decodeStatus_noHeader myAddr hn hlt)
  have hsync : buf 0 = Config.sync :=
    not_not.1 fun hne => excludes (by decide) (decodeStatus_invalidSync myAddr hn hn3 hne)
  have hbytes := mt (decodeStatus_invalidHeader myAddr hn hn3 hsync) (excludes (by decide))
  simp only [not_or, Bool.not_eq_true, Nat.not_le] at hbytes
  obtain ⟨hhdb2, hhdb1, hcode⟩ := hbytes
  have hheader : HeaderOk buf := ⟨hsync, hhdb2, hhdb1, Nat.le_of_lt_succ hcode⟩
  rw [decodeStatus_of_headerOk myAddr hn hn3 hheader] at h
  split_ifs at h with hdab hus hlen
  exact ⟨hn, hn3, hheader, Nat.not_lt.1 hlen⟩

/-! ### DECODE

`exec_decode` says once what the command does: it reads the frame (`frameRead`) and ends as that says. -/

/-- The results that the bytes of a frame spell (R78 step 9). -/
def frameParsed (buf : Nat → Byte) : Parsed where
  target := Spec.addressAt buf 3 (Spec.dab (buf 1))
  source := Spec.addressAt buf (3 + Spec.dab (buf 1)) (Spec.sab (buf 1))
  dab := hdb2Dab (buf 1)
  sab := hdb2Sab (buf 1)
  wlen := Spec.wireLength (Spec.lengthCode (buf 2))

/-- What DECODE makes of `n` bytes: the results of a frame that passes every test, or the first failing test's
status (R78). -/
def frameRead (size : Nat) (myAddr : Addr) (n : Nat) (buf : Nat → Byte) : Except Status Parsed :=
  if Spec.decodeStatus size myAddr n buf = .ok then .ok (frameParsed buf)
  else .error (Spec.decodeStatus size myAddr n buf)

section
variable {size n : Nat} {myAddr : Addr} {buf : Nat → Byte}

theorem frameRead_ok (h : Spec.decodeStatus size myAddr n buf = .ok) :
    frameRead size myAddr n buf = .ok (frameParsed buf) := if_pos h

theorem frameRead_error {e : Status} (h : Spec.decodeStatus size myAddr n buf = e) (he : e ≠ .ok) :
    frameRead size myAddr n buf = .error e := by
  subst h
  exact if_neg he

end

/-- The address filter, as R80 words it. -/
theorem forUs_iff (myAddr t : Addr) : forUs myAddr t = true ↔ t = 0 ∨ t = myAddr := by simp [forUs]

/-- Part of a list of bytes read off a buffer. -/
theorem take_drop_map_range (buf : Nat → Byte) {i k m : Nat} (h : i + k ≤ m) :
    (((List.range m).map buf).drop i).take k = (List.range k).map fun j => buf (i + j) := by
  apply List.ext_getElem
  · simp
    omega
  · intro j _ _
    simp

/-- The three header bytes and the rest, as the decoder takes them apart. -/
theorem map_range_three_add (buf : Nat → Byte) (m : Nat) :
    (List.range (3 + m)).map buf = buf 0 :: buf 1 :: buf 2 :: (List.range m).map fun j => buf (3 + j) := by
  rw [List.range_add, List.map_append, List.map_map]
  rfl

/-- R78 from step 6 on, for the `m` bytes of a buffer after its header. -/
theorem parseBody_bytes (myAddr : Addr) (buf : Nat → Byte) (dab sab : BitVec 2) (wl m : Nat) :
    parseBody myAddr dab sab wl ((List.range m).map fun j => buf (3 + j)) =
      if m < dab.toNat then .error .truncated
      else if ¬ (Spec.addressAt buf 3 dab.toNat = 0 ∨ Spec.addressAt buf 3 dab.toNat = myAddr) then .error .notForUs
      else if m < dab.toNat + sab.toNat + wl then .error .truncated
      else .ok ⟨Spec.addressAt buf 3 dab.toNat, Spec.addressAt buf (3 + dab.toNat) sab.toNat, dab, sab, wl⟩ := by
  have htarget (hm : 0 + dab.toNat ≤ m) :
      unpack (((List.range m).map fun j => buf (3 + j)).take dab.toNat) = Spec.addressAt buf 3 dab.toNat := by
    have h := take_drop_map_range (fun j => buf (3 + j)) hm
    rw [List.drop_zero] at h
    simp only [h, addressAt_eq_unpack, Nat.zero_add]
  have hsource (hm : dab.toNat + sab.toNat ≤ m) :
      unpack ((((List.range m).map fun j => buf (3 + j)).drop dab.toNat).take sab.toNat) =
        Spec.addressAt buf (3 + dab.toNat) sab.toNat := by
    simp only [take_drop_map_range _ hm, addressAt_eq_unpack, Nat.add_assoc]
  simp only [parseBody, List.length_map, List.length_range, Bool.not_eq_true', ← Bool.not_eq_true, forUs_iff]
  by_cases hdab : m < dab.toNat
  · simp only [if_pos hdab]
  · by_cases hlen : m < dab.toNat + sab.toNat + wl
    · simp only [htarget (by omega), if_pos hlen]
    · simp only [htarget (by omega), hsource (by omega)]

/-- A valid header leaves R78 from step 6 on to the decoder. -/
theorem parseFrame_of_headerOk {buf : Nat → Byte} (h : HeaderOk buf) (myAddr : Addr) (rest : List Byte) :
    parseFrame myAddr (buf 0 :: buf 1 :: buf 2 :: rest) =
      parseBody myAddr (hdb2Dab (buf 1)) (hdb2Sab (buf 1)) (Spec.wireLength (Spec.lengthCode (buf 2))) rest := by
  simp only [parseFrame, h.sync, h.hdb2, h.hdb1, toNat_hdb1Code, wireLen_eq_some h.code]
  rfl

/-- The decoder's checks and results, for `n` bytes of a buffer: the branches of `parseFrame` are the tests of R78. -/
theorem parseFrame_bytes {size n : Nat} (hn : n ≤ size) (myAddr : Addr) (buf : Nat → Byte) :
    parseFrame myAddr ((List.range n).map buf) = frameRead size myAddr n buf := by
  rcases Nat.lt_or_ge n 3 with hn3 | hn3
  · rw [frameRead_error (decodeStatus_noHeader myAddr hn hn3) (by decide)]
    interval_cases n <;> rfl
  obtain ⟨m, rfl⟩ := Nat.exists_eq_add_of_le hn3
  rw [map_range_three_add]
  by_cases hheader : HeaderOk buf
  · rw [parseFrame_of_headerOk hheader, parseBody_bytes, toNat_hdb2Dab, toNat_hdb2Sab, frameRead,
      decodeStatus_of_headerOk myAddr hn hn3 hheader]
    simp only [Spec.frameLength, Nat.add_assoc, Nat.add_lt_add_iff_left]
    by_cases hdab : m < Spec.dab (buf 1)
    · simp only [if_pos hdab]
      rfl
    by_cases hus : Spec.addressAt buf 3 (Spec.dab (buf 1)) = 0 ∨ Spec.addressAt buf 3 (Spec.dab (buf 1)) = myAddr
    · by_cases hlen : m < Spec.dab (buf 1) + (Spec.sab (buf 1) + Spec.wireLength (Spec.lengthCode (buf 2)))
      · simp only [if_neg hdab, if_neg (not_not.2 hus), if_pos hlen]
        rfl
      · simp only [if_neg hdab, if_neg (not_not.2 hus), if_neg hlen]
        rfl
    · simp only [if_neg hdab, if_pos hus]
      rfl
  · simp only [parseFrame]
    split_ifs with hsync hdb2 hdb1
    · exact (frameRead_error (decodeStatus_invalidSync myAddr hn hn3 hsync) (by decide)).symm
    · exact (frameRead_error (decodeStatus_invalidHeader myAddr hn hn3 (not_not.1 hsync) (.inl hdb2)) (by decide)).symm
    · exact (frameRead_error (decodeStatus_invalidHeader myAddr hn hn3 (not_not.1 hsync) (.inr (.inl hdb1)))
        (by decide)).symm
    · have hcode : 12 ≤ Spec.lengthCode (buf 2) := by
        by_contra hlt
        exact hheader ⟨not_not.1 hsync, Bool.eq_false_iff.2 hdb2, Bool.eq_false_iff.2 hdb1, by omega⟩
      rw [toNat_hdb1Code, wireLen_eq_none hcode,
        frameRead_error (decodeStatus_invalidHeader myAddr hn hn3 (not_not.1 hsync) (.inr (.inr hcode))) (by decide)]

/-- What DECODE makes of the first `n` bytes of RX_BUF. -/
theorem parseFrame_memRead {n : Nat} {s : State} (hn : n ≤ s.cfg.rxBufSize) :
    parseFrame s.myAddr (s.memRead .rx 0 n) = frameRead s.cfg.rxBufSize s.myAddr n (s.readByte .rx) := by
  rw [← parseFrame_bytes hn]
  simp [State.memRead]

/-- How DECODE ends, once the frame has been read: with the results and OK, or with the failing test's status
(R78, R110). -/
def State.endDecode (s : State) : Except Status Parsed → State
  | .error e => s.raise e
  | .ok p => (s.setParsed p).finish

/-- DECODE reads the frame in the first `n` bytes of RX_BUF and ends as it says (R78). -/
theorem exec_decode (n : Byte) (s : State) :
    exec (.decode n) s =
      .next (s.endDecode (frameRead s.cfg.rxBufSize s.myAddr n.toNat (s.readByte .rx))) := by
  obtain ⟨t, ht⟩ := exec_next (.decode n) s
  rw [ht, Host.Outcome.next.injEq]
  rcases execDecode_cases ht with ⟨hn, rfl⟩ | ⟨hn, e, he, rfl⟩ | ⟨hn, p, hp, rfl⟩
  · rw [frameRead_error (size := s.cfg.rxBufSize) (decodeStatus_outOfRange _ hn) (by decide)]
    rfl
  · rw [← parseFrame_memRead hn, he]
    rfl
  · rw [← parseFrame_memRead hn, hp]
    rfl

/-- DECODE of a frame that fails a test (R110). -/
theorem exec_decode_error {n : Byte} {s : State} {e : Status}
    (h : Spec.decodeStatus s.cfg.rxBufSize s.myAddr n.toNat (s.readByte .rx) = e) (he : e ≠ .ok) :
    exec (.decode n) s = .next (s.raise e) := by
  rw [exec_decode, frameRead_error h he]
  rfl

/-- DECODE of a frame that passes every test (R78 step 9). -/
theorem exec_decode_ok {n : Byte} {s : State}
    (h : Spec.decodeStatus s.cfg.rxBufSize s.myAddr n.toNat (s.readByte .rx) = .ok) :
    exec (.decode n) s = .next (s.setParsed (frameParsed (s.readByte .rx))).finish := by
  rw [exec_decode, frameRead_ok h]
  rfl

/-- Settles O29: by whether the status is OK. -/
theorem decodeStatusInSpecOrder : Obligations.DecodeStatusInSpecOrder := by
  intro n s
  by_cases h : Spec.decodeStatus s.cfg.rxBufSize s.myAddr n.toNat (s.readByte .rx) = .ok
  · exact ⟨_, exec_decode_ok h, by rw [h]; rfl, fun hne => absurd h hne⟩
  · exact ⟨_, exec_decode_error rfl h, rfl, fun _ => rfl⟩

/-- Settles O30: `frameParsed` are the six results, its offset R25's. -/
theorem decodeWritesTheResults : Obligations.DecodeWritesTheResults := by
  intro n s h
  rw [exec_decode_ok h]
  simp [State.finish_eq, State.setParsed, Parsed.offset, frameParsed, ← toNat_hdb2Dab, ← toNat_hdb2Sab]

/-- Different statuses have different codes (R104). -/
theorem Status.code_ne {e e' : Status} (h : e ≠ e') : e.code ≠ e'.code := mt (Status.code_injective e e') h

/-- Settles O31: the header is valid and the frame complete, so the filter decides. -/
theorem addressFilterIsExact : Obligations.AddressFilterIsExact := by
  intro n s target htarget hok
  obtain ⟨hn, hn3, hheader, hlen⟩ := headerOk_of_decodeStatus_ok hok
  have hdab : ¬ n.toNat < 3 + Spec.dab (s.readByte .rx 1) := by
    unfold Spec.frameLength at hlen
    omega
  have hstatus : Spec.decodeStatus s.cfg.rxBufSize s.myAddr n.toNat (s.readByte .rx) =
      if ¬ (target = 0 ∨ target = s.myAddr) then .notForUs else .ok := by
    rw [decodeStatus_of_headerOk s.myAddr hn hn3 hheader, if_neg hdab, if_neg (Nat.not_lt.2 hlen), ← htarget]
  by_cases hus : target = 0 ∨ target = s.myAddr
  · rw [if_neg (not_not.2 hus)] at hstatus
    exact ⟨_, exec_decode_ok hstatus, iff_of_true rfl hus,
      iff_of_false (Status.code_ne (e := .ok) (by decide)) (not_not.2 hus)⟩
  · rw [if_pos hus] at hstatus
    exact ⟨_, exec_decode_error hstatus (by decide),
      iff_of_false (Status.code_ne (e := .notForUs) (by decide)) hus, iff_of_true rfl hus⟩

/-- What DECODE makes of `n` bytes rests on those bytes alone (R78). -/
theorem frameRead_congr {size n : Nat} {myAddr : Addr} {buf buf' : Nat → Byte} (h : ∀ i, i < n → buf i = buf' i) :
    frameRead size myAddr n buf = frameRead size myAddr n buf' := by
  rcases Nat.lt_or_ge size n with hn | hn
  · rw [frameRead_error (decodeStatus_outOfRange myAddr hn) (by decide),
      frameRead_error (decodeStatus_outOfRange myAddr hn) (by decide)]
  · rw [← parseFrame_bytes hn, ← parseFrame_bytes hn]
    exact congrArg _ (List.map_congr_left fun i hi => h i (List.mem_range.1 hi))

/-- Settles O32: both states read the same frame. -/
theorem decodeDependsOnlyOnValidBytes : Obligations.DecodeDependsOnlyOnValidBytes := by
  intro n s₁ s₂ hmy hsize hbytes
  refine ⟨_, _, exec_decode n s₁, exec_decode n s₂, ?_⟩
  rw [← hmy, ← hsize, ← frameRead_congr hbytes]
  by_cases h : Spec.decodeStatus s₁.cfg.rxBufSize s₁.myAddr n.toNat (s₁.readByte .rx) = .ok
  · rw [frameRead_ok h]
    exact ⟨rfl, fun _ => ⟨rfl, rfl, rfl, rfl, rfl, rfl⟩⟩
  · rw [frameRead_error rfl h]
    exact ⟨rfl, fun hok => absurd hok (Status.code_ne h)⟩

/-! ### What ENCODE writes, DECODE reads back (R81) -/

/-- What a node that the encoder's frame is for recovers from it. -/
def roundTrip (t src : Addr) (wl : Nat) : Parsed where
  target := t
  source := src
  dab := hdb2Dab (hdb2Of (abcTarget t) (abcSource src))
  sab := hdb2Sab (hdb2Of (abcTarget t) (abcSource src))
  wlen := wl

theorem toNat_roundTrip_dab (t src : Addr) (wl : Nat) : (roundTrip t src wl).dab.toNat = abcTarget t := by
  obtain ⟨hdab, -, -⟩ := hdb2Of_fields _ (abcTarget_le t) _ (abcSource_range src).2
  exact (toNat_hdb2Dab _).trans hdab

theorem toNat_roundTrip_sab (t src : Addr) (wl : Nat) : (roundTrip t src wl).sab.toNat = abcSource src := by
  obtain ⟨-, hsab, -⟩ := hdb2Of_fields _ (abcTarget_le t) _ (abcSource_range src).2
  exact (toNat_hdb2Sab _).trans hsab

/-- The decoder's body takes the two address fields apart where the encoder put them together. -/
theorem parseBody_pack (myAddr t src : Addr) (payload : List Byte) :
    parseBody myAddr (roundTrip t src payload.length).dab (roundTrip t src payload.length).sab payload.length
        (pack t (abcTarget t) ++ (pack src (abcSource src) ++ payload)) =
      if forUs myAddr t then .ok (roundTrip t src payload.length) else .error .notForUs := by
  have ht : unpack (pack t (abcTarget t)) = t := unpack_pack le_rfl
  have hs : unpack (pack src (abcSource src)) = src := unpack_pack (le_max_right 1 (abc src))
  rw [parseBody, toNat_roundTrip_dab, toNat_roundTrip_sab, List.take_left' (length_pack _ _),
    List.drop_left' (length_pack _ _), List.take_left' (length_pack _ _), ht, hs]
  cases forUs myAddr t <;> simp [Nat.add_assoc, roundTrip]

/-- The decoder reads the encoder's frame back, unless it is for another node (R81). -/
theorem parseFrame_buildFrame (myAddr t src : Addr) {r code : Nat} {payload : List Byte}
    (h : lenCode r = some (code, payload.length)) :
    parseFrame myAddr (buildFrame t src code payload) =
      if forUs myAddr t then .ok (roundTrip t src payload.length) else .error .notForUs := by
  obtain ⟨hcode, hwire, -⟩ := lenCode_bucket h
  obtain ⟨hsab1, hsab3⟩ := abcSource_range src
  have hcount : (hdb1Code (BitVec.ofNat 8 code)).toNat = code := (toNat_hdb1Code _).trans (hdb1_fields code hcode).1
  rw [← parseBody_pack]
  simp only [buildFrame, List.cons_append, List.nil_append, List.append_assoc, parseFrame, hcount, hwire,
    hdb2Invalid_hdb2Of _ (abcTarget_le t) _ hsab3 hsab1, hdb1Invalid_ofNat code hcode]
  rfl

/-- The payload in the encoder's frame is what PAY_BUF held (R76). -/
theorem State.getD_frame_payload (s : State) (t src : Addr) (code : Nat) {wl i : Nat} (hi : i < wl) :
    (s.frame t src code wl).getD (3 + abcTarget t + abcSource src + i) 0 = s.readByte .pay i := by
  have hfields : ([Config.sync, hdb2Of (abcTarget t) (abcSource src), BitVec.ofNat 8 code]
      ++ pack t (abcTarget t) ++ pack src (abcSource src)).length = 3 + abcTarget t + abcSource src := by
    simp
    omega
  rw [State.frame, buildFrame, List.getD_eq_getElem?_getD, List.getElem?_append_right (by omega), hfields,
    Nat.add_sub_cancel_left, State.getElem?_memRead _ _ _ _ _ hi, Option.getD_some, Nat.zero_add]

/-- MemRead gives the same bytes of two buffers that agree. -/
theorem State.memRead_congr {s t : State} {sp sp' : Space} {n : Nat}
    (h : ∀ i, i < n → s.readByte sp i = t.readByte sp' i) : s.memRead sp 0 n = t.memRead sp' 0 n :=
  List.map_congr_left fun i hi => by rw [Nat.zero_add, h i (List.mem_range.1 hi)]

section
variable {t src : Addr} {r code wl : Nat} {s s₂ : State}

/-- DECODE of the encoder's frame, wherever it was carried to (R81). -/
theorem exec_decode_carried (h : lenCode r = some (code, wl)) (hsize : 73 ≤ s₂.cfg.rxBufSize)
    (hcarried : ∀ i, i < (s.encoded t src code wl).rData.toNat →
      s₂.readByte .rx i = (s.encoded t src code wl).readByte .tx i) :
    exec (.decode (s.encoded t src code wl).rData) s₂ =
      .next (s₂.endDecode (if forUs s₂.myAddr t then .ok (roundTrip t src wl) else .error .notForUs)) := by
  have hlen := s.toNat_rData_encoded t src h
  have hle : (s.frame t src code wl).length ≤ 73 := s.length_frame t src code wl ▸ frameLength_le t src h
  rw [hlen] at hcarried
  have hbytes : s₂.memRead .rx 0 (s.frame t src code wl).length = s.frame t src code wl :=
    (State.memRead_congr hcarried).trans (s.memRead_encoded t src code wl)
  have hread := parseFrame_buildFrame s₂.myAddr t src (payload := s.memRead .pay 0 wl) (by rwa [State.length_memRead])
  rw [State.length_memRead] at hread
  rw [exec_decode, ← parseFrame_memRead (by omega), hlen, hbytes, State.frame, hread]

/-- The payload of a carried frame stands after its address fields (R76, R81). -/
theorem readByte_carried_payload (h : lenCode r = some (code, wl))
    (hcarried : ∀ i, i < (s.encoded t src code wl).rData.toNat →
      s₂.readByte .rx i = (s.encoded t src code wl).readByte .tx i) {i : Nat} (hi : i < wl) :
    s₂.readByte .rx (3 + abcTarget t + abcSource src + i) = s.readByte .pay i := by
  have hlt : 3 + abcTarget t + abcSource src + i < (s.frame t src code wl).length := by
    rw [State.length_frame]
    omega
  rw [hcarried _ (by rwa [s.toNat_rData_encoded t src h]), State.readByte_encoded, if_pos hlt,
    State.getD_frame_payload s t src code hi]

end

/-- The results of the round trip fit their registers (R24, R25). -/
theorem State.setParsed_roundTrip (s : State) (t src : Addr) {r code wl : Nat} (h : lenCode r = some (code, wl)) :
    (s.setParsed (roundTrip t src wl)).rWlen.toNat = wl ∧
      (s.setParsed (roundTrip t src wl)).rOff.toNat = 3 + abcTarget t + abcSource src := by
  have hwl : wl ≤ 64 := wireLength_le_of_lenCode h
  have hdab := abcTarget_le t
  have hsab := (abcSource_range src).2
  constructor
  · simp only [State.setParsed, roundTrip, BitVec.toNat_ofNat]
    omega
  · simp only [State.setParsed, Parsed.offset, toNat_roundTrip_dab, toNat_roundTrip_sab, BitVec.toNat_ofNat]
    omega

/-- Settles O33: `exec_decode_carried` with either answer of the filter. -/
theorem codecRoundTrip : Obligations.CodecRoundTrip := by
  intro t src r s s₁ s₂ hr hexec hsize hcarried
  obtain ⟨code, wl, hcode⟩ := lenCode_isSome hr
  obtain ⟨-, -, hle⟩ := lenCode_bucket hcode
  rw [exec_encode hcode, Host.Outcome.next.injEq] at hexec
  subst hexec
  have hdecode := exec_decode_carried hcode hsize hcarried
  constructor
  · intro hus
    rw [if_pos ((forUs_iff _ _).2 hus)] at hdecode
    obtain ⟨hwlen, hoff⟩ := s₂.setParsed_roundTrip t src hcode
    refine ⟨_, hdecode, rfl, rfl, rfl, fun code' wl' h => ?_, hoff, fun i hi => ?_⟩
    · obtain ⟨rfl, rfl⟩ : code = code' ∧ wl = wl' := by simpa [hcode] using h
      exact ⟨hwlen, hle⟩
    · have hpayload := readByte_carried_payload hcode hcarried (hi.trans_le hle)
      rw [← hoff] at hpayload
      exact hpayload
  · intro hus
    rw [if_neg (mt (forUs_iff _ _).1 hus)] at hdecode
    exact hdecode

end Sys2Proof.Machine

/-! The driver family (41_driver.md): the half-duplex discipline (O20, O21), RESET (O35 to O38), SEND (O39 to
O42), RECEIVE and READREG (O46 to O48), and what the driver state gates (O43 to O45). -/

namespace Sys2Proof.Machine

/-! ### The driver's commands, outcome by outcome

The two checks of SEND and RECEIVE stand in the order of R109: the operand, then DRV_STATE. -/

theorem exec_readreg (a : Byte) (s : State) :
    exec (.readreg a) s = .next ({ s.xReadReg a with rData := s.answer } : State).finish := rfl

theorem exec_reset (s : State) : exec .reset s = .next (({ s with drv := .uninit } : State).readyPoll 0) := rfl

theorem exec_send_operandError {n : Byte} {s : State} (h : n = 0 ∨ 73 < n.toNat) :
    exec (.send n) s = .next (s.raise .operandError) :=
  congrArg Host.Outcome.next (if_pos h)

theorem exec_receive_operandError {c : Byte} {s : State} (h : c = 0 ∨ s.cfg.rxBufSize < c.toNat) :
    exec (.receive c) s = .next (s.raise .operandError) :=
  congrArg Host.Outcome.next (if_pos h)

/-- An operand inside its bounds passes the operand check of SEND and RECEIVE (R94, R95). -/
theorem operand_inRange {n : Byte} {size : Nat} (h1 : 1 ≤ n.toNat) (hsize : n.toNat ≤ size) :
    ¬ (n = 0 ∨ size < n.toNat) := by
  rintro (rfl | h)
  · exact absurd h1 (by decide)
  · omega

section
variable {n : Byte} {s : State} (h1 : 1 ≤ n.toNat)
include h1

theorem exec_send_notInitialised (h73 : n.toNat ≤ 73) (hdrv : s.drv ≠ .rx) :
    exec (.send n) s = .next (s.raise .notInitialised) :=
  congrArg Host.Outcome.next ((if_neg (operand_inRange h1 h73)).trans (if_pos hdrv))

theorem exec_send_starts (h73 : n.toNat ≤ 73) (hdrv : s.drv = .rx) :
    exec (.send n) s = .next ((s.sendStart n.toNat).txPoll 0) :=
  congrArg Host.Outcome.next ((if_neg (operand_inRange h1 h73)).trans (if_neg (not_not.2 hdrv)))

theorem exec_receive_notInitialised (hsize : n.toNat ≤ s.cfg.rxBufSize) (hdrv : s.drv ≠ .rx) :
    exec (.receive n) s = .next (s.raise .notInitialised) :=
  congrArg Host.Outcome.next ((if_neg (operand_inRange h1 hsize)).trans (if_pos hdrv))

/-- RECEIVE that passes both checks reads the occupancy, and empties the FIFO unless it is 0 (R95). -/
theorem exec_receive_starts (hsize : n.toNat ≤ s.cfg.rxBufSize) (hdrv : s.drv = .rx) :
    exec (.receive n) s = .next (
      if s.occupancy = 0 then ({ s.xReadReg s.cfg.rxoccAddr with rData := 0 } : State).finish
      else (s.xReadReg s.cfg.rxoccAddr).receiveBurst (min s.occupancy.toNat n.toNat)) :=
  congrArg Host.Outcome.next ((if_neg (operand_inRange h1 hsize)).trans (if_neg (not_not.2 hdrv)))

end

/-! ### Commands that DRV_STATE does not touch (R89, D30) -/

/-- The command leaves DRV_STATE and HIST as they are and does the same in every driver state. -/
def IgnoresDrv (i : Instr) : Prop :=
  ∀ (s t : State) (d : DrvState), exec i s = .next t →
    t.drv = s.drv ∧ t.hist = s.hist ∧ exec i { s with drv := d } = .next { t with drv := d }

/-- MemWrite does not depend on DRV_STATE. -/
theorem State.memWrite_setDrv (s : State) (d : DrvState) (sp : Space) (i : Nat) (bs : List Byte) :
    ({ s with drv := d } : State).memWrite sp i bs = { s.memWrite sp i bs with drv := d } := by
  cases sp <;> rfl

theorem ignoresDrv_encode (t src : Addr) (r : Byte) : IgnoresDrv (.encode t src r) := by
  intro s s' d h
  cases hlen : lenCode r.toNat with
  | none =>
    rw [exec_encode_overflow t src hlen, Host.Outcome.next.injEq] at h
    subst h
    exact ⟨rfl, rfl, exec_encode_overflow t src hlen { s with drv := d }⟩
  | some bucket =>
    rw [exec_encode hlen, Host.Outcome.next.injEq] at h
    subst h
    exact ⟨rfl, rfl, exec_encode hlen { s with drv := d }⟩

theorem ignoresDrv_decode (n : Byte) : IgnoresDrv (.decode n) := by
  intro s s' d h
  rw [exec_decode, Host.Outcome.next.injEq] at h
  subst h
  have hread : ({ s with drv := d } : State).readByte .rx = s.readByte .rx := rfl
  rw [exec_decode, hread]
  cases frameRead s.cfg.rxBufSize s.myAddr n.toNat (s.readByte .rx) with
  | error e => exact ⟨rfl, rfl, rfl⟩
  | ok p => exact ⟨rfl, rfl, rfl⟩

/-- BUFWR and BUFRD whose operand check fails (R99). -/
theorem exec_buf_outOfRange {sp : SpaceCode} {idx : Byte} {s : State} (h : s.bufOperand sp idx = none)
    (data : Byte) :
    exec (.bufwr sp idx data) s = .next (s.raise .operandError) ∧
      exec (.bufrd sp idx) s = .next (s.raise .operandError) := by
  simp only [exec, execBufwr, execBufrd, h, and_self]

theorem ignoresDrv_bufwr (sp : SpaceCode) (idx data : Byte) : IgnoresDrv (.bufwr sp idx data) := by
  intro s s' d h
  rcases execBufwr_cases h with ⟨hop, rfl⟩ | ⟨space, hsp, hidx, rfl⟩
  · exact ⟨rfl, rfl, (exec_buf_outOfRange (s := { s with drv := d }) hop data).1⟩
  · refine ⟨by simp, by simp, ?_⟩
    have hwr := exec_bufwr_inRange (s := { s with drv := d }) hsp hidx data
    rw [State.memWrite_setDrv] at hwr
    exact hwr

theorem ignoresDrv_bufrd (sp : SpaceCode) (idx : Byte) : IgnoresDrv (.bufrd sp idx) := by
  intro s s' d h
  rcases execBufrd_cases h with ⟨hop, rfl⟩ | ⟨space, hsp, hidx, rfl⟩
  · exact ⟨rfl, rfl, (exec_buf_outOfRange (s := { s with drv := d }) hop 0).2⟩
  · refine ⟨rfl, rfl, (exec_bufrd_inRange (s := { s with drv := d }) hsp hidx).trans ?_⟩
    rw [State.readByte_congr (t := s) (by cases space <;> rfl)]
    rfl

/-! ### Half duplex: what the scan of HIST makes of an event (R88; log 13) -/

/-- The event is neither a TX FIFO write nor an RX FIFO read. -/
def Event.sparesFifos (c : Config) (e : Event) : Prop := e.isFifoWrite c = false ∧ e.isBurst = false

@[simp] theorem Scan.next_readReg (c : Config) (m : Scan) (a v : Byte) : Scan.next c m (.readReg a v) = m := by
  simp [Scan.next, Event.isFifoWrite, Event.isBurst]

@[simp] theorem Scan.next_delay (c : Config) (m : Scan) (us : Nat) : Scan.next c m (.delay us) = m := by
  simp [Scan.next, Event.isFifoWrite, Event.isBurst]

/-- A burst read keeps the discipline when the chip is in RX. -/
@[simp] theorem Scan.next_readBurst_ok (c : Config) (m : Scan) (k : Nat) (bs : List Byte) :
    (Scan.next c m (.readBurst k bs)).ok = (m.ok && m.armed) := by
  simp [Scan.next, Event.isFifoWrite, Event.isBurst]

/-- A TX FIFO write keeps the discipline when the chip is in IDLE. -/
@[simp] theorem Scan.next_fifoWrite_ok (c : Config) (m : Scan) (bs : List Byte) :
    (Scan.next c m (.write (c.txfifoHdr :: bs))).ok = (m.ok && m.idled) := by
  simp [Scan.next, Event.isFifoWrite, Event.isBurst]

@[simp] theorem Scan.next_sSidle_idled (c : Config) (m : Scan) :
    (Scan.next c m (.write [c.sSidle])).idled = true := by
  simp [Scan.next]

@[simp] theorem Scan.next_sSrx_armed (c : Config) (m : Scan) : (Scan.next c m (.write [c.sSrx])).armed = true := by
  simp [Scan.next]

theorem Scan.next_ok_of_sparesFifos {c : Config} {e : Event} (he : e.sparesFifos c) (m : Scan) :
    (Scan.next c m e).ok = m.ok := by
  obtain ⟨hwrite, hburst⟩ := he
  simp [Scan.next, hwrite, hburst]

/-- Events that touch no FIFO cannot break the discipline. -/
theorem Scan.foldl_next_ok {c : Config} {es : List Event} (hes : ∀ e ∈ es, e.sparesFifos c) (m : Scan) :
    (es.foldl (Scan.next c) m).ok = m.ok := by
  induction es generalizing m with
  | nil => rfl
  | cons e es ih =>
    rw [List.forall_mem_cons] at hes
    obtain ⟨he, hes⟩ := hes
    rw [List.foldl_cons, ih hes, Scan.next_ok_of_sparesFifos he]

@[simp] theorem Event.sparesFifos_readReg (c : Config) (a v : Byte) :
    (Event.readReg a v).sparesFifos c := ⟨rfl, rfl⟩

@[simp] theorem Event.sparesFifos_delay (c : Config) (us : Nat) : (Event.delay us).sparesFifos c := ⟨rfl, rfl⟩

/-- A write that does not begin with TXFIFO_HDR is no TX FIFO write. -/
theorem Event.sparesFifos_write {c : Config} {bs : List Byte} (h : bs.head? ≠ some c.txfifoHdr) :
    (Event.write bs).sparesFifos c := by
  cases bs with
  | nil => exact ⟨rfl, rfl⟩
  | cons b bs => exact ⟨by simpa [Event.isFifoWrite] using h, rfl⟩

/-- No strobe is a TX FIFO write, where R88 can be read off HIST. -/
theorem Event.sparesFifos_strobe {c : Config} (hc : c.halfDuplexOk) {b : Byte}
    (hb : b ∈ [c.sSidle, c.sStx, c.sSrx, c.sSftx, c.sSfrx]) : (Event.write [b]).sparesFifos c :=
  Event.sparesFifos_write fun h => hc.1 (Option.some.inj h ▸ hb)

/-! ### Half duplex: the scan of the block's own history -/

/-- What the scan knows of the history so far. -/
def State.scan (s : State) : Scan := scanHist s.cfg s.hist

theorem State.halfDuplex_iff (s : State) :
    s.halfDuplex ↔ s.scan.ok = true ∧ (s.seq = .idle → s.drv = .rx → s.scan.armed = true) := Iff.rfl

/-- The scan goes on where it stood. -/
theorem scanHist_append (c : Config) (h es : List Event) :
    scanHist c (h ++ es) = es.foldl (Scan.next c) (scanHist c h) := List.foldl_append

/-- A register read leaves the scan as it is. -/
theorem State.scan_xReadReg (s : State) (a : Byte) : (s.xReadReg a).scan = s.scan := by
  rw [State.scan, State.xReadReg_hist, State.xReadReg_cfg, scanHist_append]
  simp [State.scan]

/-- Between commands, what leaves the scan and DRV_STATE as they are keeps the discipline. -/
theorem State.halfDuplex.of_scan_eq {s t : State} (hs : s.halfDuplex) (hq : s.seq = .idle) (hdrv : t.drv = s.drv)
    (hscan : t.scan = s.scan) : t.halfDuplex := by
  obtain ⟨hok, harmed⟩ := s.halfDuplex_iff.1 hs
  refine t.halfDuplex_iff.2 ⟨by rw [hscan, hok], fun _ hrx => ?_⟩
  rw [hscan, harmed hq (hdrv ▸ hrx)]

/-- What ends where no RECEIVE can begin, the discipline kept so far, keeps it. -/
theorem State.halfDuplex_of_noReceive {t : State} (hok : t.scan.ok = true) (h : t.seq ≠ .idle ∨ t.drv ≠ .rx) :
    t.halfDuplex :=
  t.halfDuplex_iff.2 ⟨hok, fun hq hrx => (h.elim (· hq) (· hrx)).elim⟩

/-- What ends with the strobe "enter RX", no FIFO touched before it, keeps the discipline. -/
theorem State.halfDuplex_of_rearmed {s t : State} {es : List Event} (hc : s.cfg.halfDuplexOk)
    (hok : s.scan.ok = true) (hcfg : t.cfg = s.cfg) (hhist : t.hist = s.hist ++ (es ++ [.write [s.cfg.sSrx]]))
    (hes : ∀ e ∈ es, e.sparesFifos s.cfg) : t.halfDuplex := by
  have hscan : t.scan = Scan.next s.cfg (es.foldl (Scan.next s.cfg) s.scan) (.write [s.cfg.sSrx]) := by
    rw [State.scan, hcfg, hhist, scanHist_append, List.foldl_append]
    rfl
  refine t.halfDuplex_iff.2 ⟨?_, fun _ _ => ?_⟩
  · rw [hscan, Scan.next_ok_of_sparesFifos (Event.sparesFifos_strobe hc (by simp)), Scan.foldl_next_ok hes, hok]
  · rw [hscan, Scan.next_sSrx_armed]

/-- A ready poll keeps the discipline: the init table ends in "enter RX" (R68, R90). -/
theorem State.halfDuplex_readyPoll {s : State} (hc : s.cfg.halfDuplexOk) (hok : s.scan.ok = true) (pcnt : Nat) :
    (s.readyPoll pcnt).halfDuplex := by
  have hread : (s.xReadReg s.cfg.readyAddr).scan.ok = true := by rw [State.scan_xReadReg, hok]
  rcases s.readyPoll_cases pcnt with ⟨-, h⟩ | ⟨-, h⟩ | ⟨-, h⟩ <;> rw [h]
  · have ⟨_, records, hrecords, hheads, hlast⟩ := hc
    obtain ⟨before, rfl⟩ := List.getLast?_eq_some_iff.1 hlast
    refine State.halfDuplex_of_rearmed (s := s) (es := .readReg s.cfg.readyAddr s.answer :: before.map Event.write)
      hc hok rfl (by simp [hrecords]) ?_
    rw [List.forall_mem_cons, List.forall_mem_map]
    exact ⟨Event.sparesFifos_readReg _ _ _,
      fun r hr => Event.sparesFifos_write (hheads r (List.mem_append_left _ hr))⟩
  · exact State.halfDuplex_of_noReceive hread (.inr (by simp))
  · exact State.halfDuplex_of_noReceive hread (.inl (by simp))

/-- A TX-done poll keeps the discipline: done, it strobes IDLE and "enter RX" (R91, R94). -/
theorem State.halfDuplex_txPoll {s : State} (hc : s.cfg.halfDuplexOk) (hok : s.scan.ok = true) (pcnt : Nat) :
    (s.txPoll pcnt).halfDuplex := by
  have hread : (scanHist s.cfg
      (s.hist ++ [.delay s.cfg.txPollUs, .readReg s.cfg.txdoneAddr s.answer])).ok = true := by
    rw [scanHist_append]
    simpa [State.scan] using hok
  rcases s.txPoll_cases pcnt with ⟨-, h⟩ | ⟨-, h⟩ | ⟨-, h⟩ <;> rw [h]
  · refine State.halfDuplex_of_rearmed (s := s)
      (es := [.delay s.cfg.txPollUs, .readReg s.cfg.txdoneAddr s.answer, .write [s.cfg.sSidle]])
      hc hok rfl (by simp) ?_
    simpa using Event.sparesFifos_strobe hc (by simp)
  · exact State.halfDuplex_of_noReceive hread (.inr (by simp))
  · exact State.halfDuplex_of_noReceive hread (.inl (by simp))

@[simp] theorem State.sendStart_cfg (s : State) (n : Nat) :
    (s.sendStart n).cfg = s.cfg := by rw [State.sendStart_eq]

/-- SEND writes the TX FIFO right after its IDLE strobe (R94). -/
theorem State.scan_sendStart_ok {s : State} (hc : s.cfg.halfDuplexOk) (hok : s.scan.ok = true) (n : Nat) :
    (s.sendStart n).scan.ok = true := by
  have hstrobe {b : Byte} (hb : b ∈ [s.cfg.sSidle, s.cfg.sStx, s.cfg.sSrx, s.cfg.sSftx, s.cfg.sSfrx]) (m : Scan) :
      (Scan.next s.cfg m (.write [b])).ok = m.ok :=
    Scan.next_ok_of_sparesFifos (Event.sparesFifos_strobe hc hb) m
  rw [State.scan] at hok ⊢
  rw [State.sendStart_eq, scanHist_append]
  simp [hstrobe, hok]

/-- RECEIVE reads the RX FIFO while the chip is in RX, and ends with "enter RX" (R95). -/
theorem State.halfDuplex_receiveBurst {s : State} (hc : s.cfg.halfDuplexOk) (hok : s.scan.ok = true)
    (harmed : s.scan.armed = true) (k : Nat) : (s.receiveBurst k).halfDuplex := by
  have hburst : (s.xReadBurst k).scan.ok = true := by
    rw [State.scan] at hok harmed ⊢
    rw [State.xReadBurst_hist, State.xReadBurst_cfg, scanHist_append]
    simp [hok, harmed]
  rw [State.receiveBurst_eq]
  refine State.halfDuplex_of_rearmed (s := s.xReadBurst k)
    (es := [.write [s.cfg.sSidle], .write [s.cfg.sSfrx], .write [s.cfg.sSftx]]) hc hburst rfl (by simp) ?_
  simp only [List.forall_mem_cons]
  exact ⟨Event.sparesFifos_strobe hc (by simp), Event.sparesFifos_strobe hc (by simp),
    Event.sparesFifos_strobe hc (by simp), by simp⟩

/-- A command that ignores DRV_STATE issues nothing, so it keeps the discipline. -/
theorem IgnoresDrv.halfDuplex {i : Instr} (hi : IgnoresDrv i) {s t : State} (hs : s.halfDuplex)
    (hq : s.seq = .idle) (h : exec i s = .next t) : t.halfDuplex := by
  obtain ⟨hdrv, hhist, -⟩ := hi s t s.drv h
  obtain ⟨_, _, ht⟩ := exec_transacts h
  exact hs.of_scan_eq hq hdrv (by rw [State.scan, State.scan, ht.cfg, hhist])

/-- Every command keeps the discipline. -/
theorem exec_halfDuplex {i : Instr} {s t : State} (hc : s.cfg.halfDuplexOk) (hs : s.halfDuplex)
    (hq : s.seq = .idle) (h : exec i s = .next t) : t.halfDuplex := by
  obtain ⟨hok, harmed⟩ := s.halfDuplex_iff.1 hs
  cases i with
  | encode target source reqLen => exact (ignoresDrv_encode target source reqLen).halfDuplex hs hq h
  | decode n => exact (ignoresDrv_decode n).halfDuplex hs hq h
  | bufwr sp idx data => exact (ignoresDrv_bufwr sp idx data).halfDuplex hs hq h
  | bufrd sp idx => exact (ignoresDrv_bufrd sp idx).halfDuplex hs hq h
  | reset =>
    obtain rfl := execReset_cases h
    exact State.halfDuplex_readyPoll (s := { s with drv := .uninit }) hc hok 0
  | send n =>
    rcases execSend_cases h with ⟨-, rfl⟩ | ⟨-, -, rfl⟩ | ⟨-, -, rfl⟩
    · exact hs.of_scan_eq hq rfl rfl
    · exact hs.of_scan_eq hq rfl rfl
    · have hstart := State.scan_sendStart_ok hc hok n.toNat
      exact State.halfDuplex_txPoll (by rwa [State.sendStart_cfg]) hstart 0
  | receive capacity =>
    have hread := s.scan_xReadReg s.cfg.rxoccAddr
    rcases execReceive_cases h with ⟨-, rfl⟩ | ⟨-, -, rfl⟩ | ⟨-, -, -, rfl⟩ | ⟨-, hdrv, -, rfl⟩
    · exact hs.of_scan_eq hq rfl rfl
    · exact hs.of_scan_eq hq rfl rfl
    · exact hs.of_scan_eq hq rfl hread
    · exact State.halfDuplex_receiveBurst (s := s.xReadReg s.cfg.rxoccAddr) hc (by rw [hread, hok])
        (by rw [hread, harmed hq hdrv]) _
  | readreg addr =>
    obtain rfl := execReadreg_cases h
    exact hs.of_scan_eq hq rfl (s.scan_xReadReg addr)

/-- Settles O21: by the cases of a step; a poll needs of the history only that it kept the discipline so far. -/
theorem everyStepKeepsHalfDuplex : Obligations.EveryStepKeepsHalfDuplex := by
  intro s t hc hs h
  obtain ⟨-, ⟨-, -, rfl⟩ | ⟨hq, w, ws, i, -, -, hexec⟩ | ⟨hq, w, ws, e, -, -, rfl⟩ | ⟨pcnt, -, rfl⟩ |
    ⟨pcnt, -, rfl⟩⟩ := step_cases h
  · exact hs
  · exact exec_halfDuplex (s := { s with hostWords := ws }) hc hs hq hexec
  · exact hs.of_scan_eq hq rfl rfl
  · exact State.halfDuplex_readyPoll hc hs.1 pcnt
  · exact State.halfDuplex_txPoll hc hs.1 pcnt

/-- Settles O20: nothing has happened, and DRV_STATE is UNINIT. -/
theorem powerOnMeetsHalfDuplex : Obligations.PowerOnMeetsHalfDuplex := fun c =>
  State.halfDuplex_of_noReceive (t := State.powerOn c) rfl (.inr (by simp [State.powerOn]))

/-! ### A command that polls, poll by poll (R90, R91; log 1) -/

/-- One more step at the end of a run. -/
theorem run_succ {k : Nat} {s t : State} (h : Spec.run k s = .next t) : Spec.run (k + 1) s = step t := by
  induction k generalizing s with
  | zero =>
    obtain rfl : s = t := by simpa [Spec.run] using h
    rw [Spec.run]
    cases step s <;> rfl
  | succ k ih =>
    rw [Spec.run] at h ⊢
    cases hstep : step s with
    | next u =>
      rw [hstep] at h
      exact ih h
    | fault r => exact nomatch r
    | refused r => simp [hstep] at h

/-- A step between commands runs the command that the host presents. -/
theorem step_of_presents {s : State} {i : Instr} {ws : List CmdWord} (h : Spec.Presents s i ws) :
    step s = exec i { s with hostWords := ws } := by
  obtain ⟨hwf, hq, hwords⟩ := h
  rw [step_word hwf hq hwords, runWord, decode_encode]

theorem readyPolls_succ (s : State) (k : Nat) :
    Spec.readyPolls s (k + 1) = Spec.readyPolls s k ++ [.readReg s.cfg.readyAddr (s.answerAt k)] := by
  simp [Spec.readyPolls, List.range_succ]

theorem txPolls_succ (s : State) (k : Nat) :
    Spec.txPolls s (k + 1) =
      Spec.txPolls s k ++ [.delay s.cfg.txPollUs, .readReg s.cfg.txdoneAddr (s.answerAt k)] := by
  simp [Spec.txPolls, List.range_succ]

/-- A ready poll does not depend on what it overwrites: the transient state and the select line. -/
theorem State.readyPoll_congr (s : State) (q : Seq) (b : BitVec 1) (pcnt : Nat) :
    ({ s with seq := q, selN := b } : State).readyPoll pcnt = s.readyPoll pcnt := by
  by_cases h : s.answer &&& s.cfg.readyMask = s.cfg.readyValue
  · exact (State.readyPoll_ready { s with seq := q, selN := b } pcnt h).trans (s.readyPoll_ready pcnt h).symm
  · cases hl : limitReached s.cfg.readyPollLimit (pcnt + 1) with
    | true =>
      exact (State.readyPoll_limit { s with seq := q, selN := b } pcnt h hl).trans
        (s.readyPoll_limit pcnt h hl).symm
    | false =>
      exact (State.readyPoll_wait { s with seq := q, selN := b } pcnt h hl).trans
        (s.readyPoll_wait pcnt h hl).symm

/-- A TX-done poll does not depend on what it overwrites: the transient state and the select line. -/
theorem State.txPoll_congr (s : State) (q : Seq) (b : BitVec 1) (pcnt : Nat) :
    ({ s with seq := q, selN := b } : State).txPoll pcnt = s.txPoll pcnt := by
  by_cases h : s.answer &&& s.cfg.txdoneMask = 0
  · exact (State.txPoll_done { s with seq := q, selN := b } pcnt h).trans (s.txPoll_done pcnt h).symm
  · cases hl : limitReached s.cfg.txPollLimit (pcnt + 1) with
    | true =>
      exact (State.txPoll_limit { s with seq := q, selN := b } pcnt h hl).trans (s.txPoll_limit pcnt h hl).symm
    | false =>
      exact (State.txPoll_wait { s with seq := q, selN := b } pcnt h hl).trans (s.txPoll_wait pcnt h hl).symm

/-! ### RESET -/

/-- RESET, presented in `s`, after `k` failed polls. -/
def State.resetPolled (s : State) (ws : List CmdWord) (k : Nat) : State :=
  { s with
    drv := .uninit
    seq := .readyWait k
    selN := 1
    hostWords := ws
    hist := s.hist ++ Spec.readyPolls s k
    answers := s.answers.drop k
    draws := s.draws + k }

theorem State.answer_resetPolled (s : State) (ws : List CmdWord) (k : Nat) :
    (s.resetPolled ws k).answer = s.answerAt k := State.answerAt_shift rfl rfl 0

/-- One more failed poll below the limit. -/
theorem State.readyPoll_resetPolled {s : State} {k : Nat} (hfail : ¬ Spec.readyAt s k)
    (hlimit : limitReached s.cfg.readyPollLimit (k + 1) = false) (ws : List CmdWord) :
    (s.resetPolled ws k).readyPoll k = s.resetPolled ws (k + 1) := by
  have hanswer := s.answer_resetPolled ws k
  rw [State.readyPoll_wait (s.resetPolled ws k) k (by rwa [hanswer]) hlimit, hanswer]
  simp [State.resetPolled, readyPolls_succ, Nat.add_assoc]

/-- RESET in a row of failed polls, no limit reached: each step is one poll more. -/
theorem run_reset {s : State} {ws : List CmdWord} {k : Nat} (h : Spec.Presents s .reset ws)
    (hfail : ∀ j, j < k → ¬ Spec.readyAt s j) (hlimit : ∀ l, s.cfg.readyPollLimit = some l → k < l) :
    Spec.run (k + 1) s = .next ((s.resetPolled ws k).readyPoll k) := by
  induction k with
  | zero =>
    have hstart : s.resetPolled ws 0 =
        { ({ s with drv := .uninit, hostWords := ws } : State) with seq := .readyWait 0, selN := 1 } := by
      simp [State.resetPolled, Spec.readyPolls]
    rw [run_succ (k := 0) rfl, step_of_presents h, exec_reset, hstart, State.readyPoll_congr]
  | succ k ih =>
    have hrun := ih (fun j hj => hfail j (by omega)) (fun l hl => by have := hlimit l hl; omega)
    rw [State.readyPoll_resetPolled (hfail k (by omega)) (limitReached_eq_false.2 hlimit)] at hrun
    rw [run_succ hrun]
    exact step_readyWait h.1 rfl

/-- Settles O35: the first poll is ready. -/
theorem resetCompletesWhenReady : Obligations.ResetCompletesWhenReady := by
  intro s records hrecords hready
  rw [exec_reset, State.readyPoll_ready { s with drv := .uninit } 0 hready, hrecords]
  rfl

/-- Settles O36: `n` failed polls, then one that is ready. -/
theorem resetEndsAtFirstReadyPoll : Obligations.ResetEndsAtFirstReadyPoll := by
  intro s ws records n h hrecords hfail hready hlimit
  have hanswer := s.answer_resetPolled ws n
  rw [run_reset h hfail hlimit, State.readyPoll_ready (s.resetPolled ws n) n (by rwa [hanswer]), hanswer]
  simp [State.resetPolled, readyPolls_succ, hrecords, Nat.add_assoc]

/-- Settles O37: with no limit, the poll that comes next fails too. -/
theorem resetNeverReadyNeverEnds : Obligations.ResetNeverReadyNeverEnds := by
  intro s ws n h hnone hfail
  rw [run_reset h (fun j hj => hfail j hj.le) (by simp [hnone]),
    State.readyPoll_resetPolled (hfail n le_rfl) (by simp [hnone, limitReached])]
  rfl

/-- A poll limit of a well-formed configuration is at least 1 (R10). -/
theorem one_le_limit {c : Config} (hwf : c.wf = true) {l : Nat}
    (h : c.readyPollLimit = some l ∨ c.txPollLimit = some l) : 1 ≤ l := by
  simp only [Config.wf, Bool.and_eq_true] at hwf
  obtain ⟨⟨-, hready⟩, htx⟩ := hwf
  rcases h with h | h
  · simpa [h, Config.limitOk] using hready
  · simpa [h, Config.limitOk] using htx

/-- Settles O38: the last of the `l` polls fails at the limit. -/
theorem resetPollLimitGivesChipNotReady : Obligations.ResetPollLimitGivesChipNotReady := by
  intro s ws l h hl hfail
  obtain ⟨k, rfl⟩ := Nat.exists_eq_add_of_le' (one_le_limit h.1 (.inl hl))
  have hanswer := s.answer_resetPolled ws k
  have hreached : limitReached s.cfg.readyPollLimit (k + 1) = true := by simp [hl, limitReached]
  rw [run_reset h (fun j hj => hfail j (by omega)) (by simp [hl]),
    State.readyPoll_limit (s.resetPolled ws k) k (by rw [hanswer]; exact hfail k (by omega)) hreached, hanswer]
  simp [State.resetPolled, readyPolls_succ, Nat.add_assoc]

/-! ### SEND -/

/-- SEND n, presented in `s`, after `k` failed polls. -/
def State.sendPolled (s : State) (ws : List CmdWord) (n k : Nat) : State :=
  { s with
    drv := .tx
    seq := .txWait k
    selN := 1
    hostWords := ws
    hist := s.hist ++ Spec.sendEvents s n ++ Spec.txPolls s k
    answers := s.answers.drop k
    draws := s.draws + k }

theorem State.answer_sendPolled (s : State) (ws : List CmdWord) (n k : Nat) :
    (s.sendPolled ws n k).answer = s.answerAt k := State.answerAt_shift rfl rfl 0

/-- One more failed poll below the limit. -/
theorem State.txPoll_sendPolled {s : State} {k : Nat} (hfail : ¬ Spec.doneAt s k)
    (hlimit : limitReached s.cfg.txPollLimit (k + 1) = false) (ws : List CmdWord) (n : Nat) :
    (s.sendPolled ws n k).txPoll k = s.sendPolled ws n (k + 1) := by
  have hanswer := s.answer_sendPolled ws n k
  rw [State.txPoll_wait (s.sendPolled ws n k) k (by rwa [hanswer]) hlimit, hanswer]
  simp [State.sendPolled, txPolls_succ, Nat.add_assoc]

/-- SEND in a row of failed polls, no limit reached: each step is one poll more. -/
theorem run_send {s : State} {ws : List CmdWord} {n : Byte} {k : Nat} (h : Spec.Presents s (.send n) ws)
    (h1 : 1 ≤ n.toNat) (h73 : n.toNat ≤ 73) (hdrv : s.drv = .rx) (hfail : ∀ j, j < k → ¬ Spec.doneAt s j)
    (hlimit : ∀ l, s.cfg.txPollLimit = some l → k < l) :
    Spec.run (k + 1) s = .next ((s.sendPolled ws n.toNat k).txPoll k) := by
  induction k with
  | zero =>
    have hstart : s.sendPolled ws n.toNat 0 =
        { ({ s with hostWords := ws } : State).sendStart n.toNat with seq := .txWait 0, selN := 1 } := by
      have hmem : ({ s with hostWords := ws } : State).memRead .tx 0 n.toNat = s.memRead .tx 0 n.toNat := rfl
      rw [State.sendStart_eq]
      simp [State.sendPolled, Spec.txPolls, Spec.sendEvents, hmem]
    rw [run_succ (k := 0) rfl, step_of_presents h,
      exec_send_starts (s := { s with hostWords := ws }) h1 h73 hdrv, hstart]
    exact congrArg _ (State.txPoll_congr _ _ _ 0).symm
  | succ k ih =>
    have hrun := ih (fun j hj => hfail j (by omega)) (fun l hl => by have := hlimit l hl; omega)
    rw [State.txPoll_sendPolled (hfail k (by omega)) (limitReached_eq_false.2 hlimit)] at hrun
    rw [run_succ hrun]
    exact step_txWait h.1 rfl

/-- Settles O39: the first poll is done. -/
theorem sendCompletesWhenDone : Obligations.SendCompletesWhenDone := by
  intro n s h1 h73 hdrv hdone
  have hanswer : (s.sendStart n.toNat).answer = s.answer := by rw [State.sendStart_eq]; rfl
  have hpoll := State.txPoll_done (s.sendStart n.toNat) 0 (by rw [hanswer, State.sendStart_cfg]; exact hdone)
  rw [exec_send_starts h1 h73 hdrv, hpoll, hanswer, State.sendStart_eq]
  rfl

/-- Settles O40: `m` failed polls, then one that is done. -/
theorem sendEndsAtFirstDonePoll : Obligations.SendEndsAtFirstDonePoll := by
  intro s ws n m h h1 h73 hdrv hfail hdone hlimit
  have hanswer := s.answer_sendPolled ws n.toNat m
  rw [run_send h h1 h73 hdrv hfail hlimit,
    State.txPoll_done (s.sendPolled ws n.toNat m) m (by rwa [hanswer]), hanswer]
  simp [State.sendPolled, txPolls_succ, hdrv, Nat.add_assoc]

/-- Settles O41: with no limit, the poll that comes next fails too. -/
theorem sendNeverDoneNeverEnds : Obligations.SendNeverDoneNeverEnds := by
  intro s ws n m h h1 h73 hdrv hnone hfail
  rw [run_send h h1 h73 hdrv (fun j hj => hfail j hj.le) (by simp [hnone]),
    State.txPoll_sendPolled (hfail m le_rfl) (by simp [hnone, limitReached])]
  rfl

/-- Settles O42: the last of the `l` polls fails at the limit. -/
theorem sendPollLimitGivesChipNotReady : Obligations.SendPollLimitGivesChipNotReady := by
  intro s ws n l h h1 h73 hdrv hl hfail
  obtain ⟨k, rfl⟩ := Nat.exists_eq_add_of_le' (one_le_limit h.1 (.inr hl))
  have hanswer := s.answer_sendPolled ws n.toNat k
  have hreached : limitReached s.cfg.txPollLimit (k + 1) = true := by simp [hl, limitReached]
  rw [run_send h h1 h73 hdrv (fun j hj => hfail j (by omega)) (by simp [hl]),
    State.txPoll_limit (s.sendPolled ws n.toNat k) k (by rw [hanswer]; exact hfail k (by omega)) hreached, hanswer]
  simp [State.sendPolled, txPolls_succ, Nat.add_assoc]

/-- RECEIVE that passes both checks ends with OK, whatever the occupancy (R95). -/
theorem exec_receive_ok {c : Byte} {s : State} (h1 : 1 ≤ c.toNat) (hsize : c.toNat ≤ s.cfg.rxBufSize)
    (hdrv : s.drv = .rx) : ∃ u, exec (.receive c) s = .next u ∧ u.code = Status.ok.code := by
  refine ⟨_, exec_receive_starts h1 hsize hdrv, ?_⟩
  split_ifs <;> rfl

/-- A TX-done poll that ends SEND with OK ends it in RX, "enter RX" the last event (R94). -/
theorem State.txPoll_ok {s : State} {pcnt : Nat} (hq : (s.txPoll pcnt).seq = .idle)
    (hcode : (s.txPoll pcnt).code = Status.ok.code) :
    (s.txPoll pcnt).drv = .rx ∧ (s.txPoll pcnt).hist.getLast? = some (.write [s.cfg.sSrx]) := by
  rcases s.txPoll_cases pcnt with ⟨-, h⟩ | ⟨-, h⟩ | ⟨-, h⟩ <;> rw [h] at hq hcode ⊢
  · exact ⟨rfl, by simp⟩
  · exact absurd hcode (by simp [Status.code])
  · exact absurd hq (by simp)

/-- A step that ends a SEND with OK is a TX-done poll, of a state with the same configuration. -/
theorem step_send_ok {s t : State} (hs : (∃ n ws, Spec.Presents s (.send n) ws) ∨ ∃ pcnt, s.seq = .txWait pcnt)
    (h : step s = .next t) (hcode : t.code = Status.ok.code) :
    ∃ (u : State) (pcnt : Nat), u.cfg = s.cfg ∧ t = u.txPoll pcnt := by
  rcases hs with ⟨n, ws, hp⟩ | ⟨pcnt, hq⟩
  · rw [step_of_presents hp] at h
    rcases execSend_cases h with ⟨-, rfl⟩ | ⟨-, -, rfl⟩ | ⟨-, -, rfl⟩
    · exact absurd hcode (Status.code_ne (e := .operandError) (by decide))
    · exact absurd hcode (Status.code_ne (e := .notInitialised) (by decide))
    · exact ⟨({ s with hostWords := ws } : State).sendStart n.toNat, 0, State.sendStart_cfg _ _, rfl⟩
  · have hwf := (step_cases h).1
    rw [step_txWait hwf hq, Host.Outcome.next.injEq] at h
    exact ⟨s, pcnt, rfl, h.symm⟩

/-- Settles O45: the poll that ends the SEND leaves the chip in RX, so RECEIVE passes both its checks. -/
theorem sendLeavesChipRxArmed : Obligations.SendLeavesChipRxArmed := by
  intro s t hs h hq hcode
  have hcfg := (configurationNeverChanges s t h).1
  obtain ⟨u, pcnt, hu, rfl⟩ := step_send_ok hs h hcode
  obtain ⟨hdrv, hlast⟩ := State.txPoll_ok hq hcode
  rw [hu] at hlast
  exact ⟨hdrv, hlast, fun c h1 hsize => exec_receive_ok h1 (by rwa [hcfg]) hdrv⟩

/-! ### What the operand and DRV_STATE gate (R89, R109) -/

/-- Settles O43: the operand is checked before DRV_STATE. -/
theorem sendReceiveOperandErrors : Obligations.SendReceiveOperandErrors :=
  ⟨fun _ _ => exec_send_operandError, fun _ _ => exec_receive_operandError⟩

/-- Settles O44: the two gated commands fail their second check, RESET overwrites DRV_STATE before its first
poll, READREG does not look at it, and for the other four each command's `IgnoresDrv`. -/
theorem driverStateGatesOnlySendAndReceive : Obligations.DriverStateGatesOnlySendAndReceive := by
  refine ⟨fun n s h1 => exec_send_notInitialised h1, fun c s h1 => exec_receive_notInitialised h1,
    fun s d => rfl, fun a s t d h => ?_, fun i s t d hi h => ?_⟩
  · obtain rfl := execReadreg_cases h
    exact ⟨rfl, rfl⟩
  · cases i with
    | encode target source reqLen => exact ignoresDrv_encode target source reqLen s t d h
    | decode n => exact ignoresDrv_decode n s t d h
    | bufwr sp idx data => exact ignoresDrv_bufwr sp idx data s t d h
    | bufrd sp idx => exact ignoresDrv_bufrd sp idx s t d h
    | reset => exact absurd hi (by decide)
    | send n => exact absurd hi (by simp [Instr.mnemonic])
    | receive capacity => exact absurd hi (by simp [Instr.mnemonic])
    | readreg addr => exact absurd hi (by simp [Instr.mnemonic])

/-! ### RECEIVE and READREG -/

/-- The burst's bytes lie at the start of RX_BUF, and the others stay as they were (R95). -/
theorem State.readByte_receiveBurst (s : State) (k j : Nat) :
    (s.receiveBurst k).readByte .rx j = if j < k then s.answerAt j else s.readByte .rx j := by
  have hcells : (s.receiveBurst k).cells .rx = (s.memWrite .rx 0 (s.answerBytes k)).cells .rx := by
    rw [State.receiveBurst_eq]
    rfl
  rw [State.readByte_congr hcells, State.readByte_memWrite]
  by_cases hj : j < k
  · simp [hj, State.answerBytes]
  · simp [hj]

/-- Settles O46: the burst comes after the occupancy read, so its bytes are the answers from 1 on. -/
theorem receiveStoresTheBurst : Obligations.ReceiveStoresTheBurst := by
  intro c s k h1 hsize hdrv hk hne
  have hocc : s.occupancy ≠ 0 := fun h0 => hne (by rw [hk, ← State.occupancy, h0]; exact Nat.zero_min _)
  have hbytes : (s.xReadReg s.cfg.rxoccAddr).answerBytes k = (List.range k).map fun j => s.answerAt (1 + j) :=
    List.map_congr_left fun j _ => State.answerAt_shift rfl rfl j
  have hexec : exec (.receive c) s = .next ((s.xReadReg s.cfg.rxoccAddr).receiveBurst k) := by
    rw [exec_receive_starts h1 hsize hdrv, if_neg hocc, hk]
    rfl
  refine ⟨_, hexec, fun j hj => ?_, fun j hj => ?_, ?_⟩
  · rw [State.readByte_receiveBurst, if_pos hj]
    exact State.answerAt_shift rfl rfl j
  · rw [State.readByte_receiveBurst, if_neg (Nat.not_lt.2 hj)]
    rfl
  · rw [State.receiveBurst_eq, hbytes]
    simp [State.xReadReg_eq, Nat.add_assoc, Nat.add_comm k 1]

/-- Settles O47: no occupancy, no burst. -/
theorem receiveEmptyTouchesNoFifo : Obligations.ReceiveEmptyTouchesNoFifo := by
  intro c s h1 hsize hdrv hocc
  rw [exec_receive_starts h1 hsize hdrv, State.occupancy, if_pos hocc, State.finish_eq, State.xReadReg_eq]

/-- Settles O48: READREG is one register read. -/
theorem readregReturnsTheAnswer : Obligations.ReadregReturnsTheAnswer := by
  intro a s
  rw [exec_readreg, State.finish_eq, State.xReadReg_eq]

end Sys2Proof.Machine

/-! The buffer family (42_buffer_access.md): BUFWR (O49) and BUFRD (O50) in range, their operand errors (O51),
and illegal command words (O8). -/

namespace Sys2Proof.Machine

/-! ### Buffer access in range (R100, R101) -/

/-- A one-byte MemWrite changes no other byte, of its own buffer or of another (R100). -/
theorem State.readByte_memWrite_byte_of_ne (s : State) {sp sp' : Space} {i a : Nat} (b : Byte)
    (h : (sp', a) ≠ (sp, i)) : (s.memWrite sp i [b]).readByte sp' a = s.readByte sp' a := by
  have hout : ¬ (sp' = sp ∧ i ≤ a ∧ a < i + [b].length) := by
    rintro ⟨rfl, hle, hlt⟩
    rw [List.length_singleton] at hlt
    exact h (congrArg (Prod.mk sp') (by omega))
  rw [State.readByte_memWrite, if_neg hout]

/-- MemWrite changes nothing but the buffers. -/
theorem State.memWrite_eq_buffers (s : State) (sp : Space) (i : Nat) (bs : List Byte) :
    s.memWrite sp i bs = { s with
      payBuf := (s.memWrite sp i bs).payBuf
      txBuf := (s.memWrite sp i bs).txBuf
      rxBuf := (s.memWrite sp i bs).rxBuf } := by
  cases sp <;> rfl

/-- Settles O49: BUFWR in range is one MemWrite and `finish`, and a one-byte MemWrite sets the byte it names and
no other. -/
theorem bufwrWritesOneByte : Obligations.BufwrWritesOneByte := by
  intro sp idx data s space hsp hidx
  refine ⟨_, exec_bufwr_inRange hsp hidx data, ?_, fun sp' a hne => ?_, ?_⟩
  · rw [State.readByte_finish, State.readByte_memWrite_byte]
  · rw [State.readByte_finish, State.readByte_memWrite_byte_of_ne s data hne]
  · exact congrArg State.finish (State.memWrite_eq_buffers s space idx.toNat [data])

/-- Settles O50: BUFRD in range puts the byte it names in R_DATA and ends with OK. -/
theorem bufrdReadsOneByte : Obligations.BufrdReadsOneByte := by
  intro sp idx s space hsp hidx
  rw [exec_bufrd_inRange hsp hidx, State.finish_eq]

/-! ### Operand errors (R99) -/

/-- A failing operand is the reserved space code or an index at or past the size of its buffer. -/
theorem State.bufOperand_eq_none_iff {s : State} {sp : SpaceCode} {idx : Byte} :
    s.bufOperand sp idx = none ↔
      sp = .reserved ∨ ∃ space, spaceOf sp = some space ∧ s.sizeOf space ≤ idx.toNat := by
  rw [State.bufOperand_eq_none]
  cases sp <;> simp [spaceOf]

/-- Settles O51: the codes and sizes are those of the tables, and both operand errors are the failures of the one
check that BUFWR and BUFRD share. -/
theorem bufferOperandErrors : Obligations.BufferOperandErrors := by
  refine ⟨rfl, rfl, rfl, rfl, fun s => ⟨rfl, rfl, rfl⟩, fun sp idx data s h => ?_⟩
  exact exec_buf_outOfRange (State.bufOperand_eq_none_iff.2 h) data

/-! ### Illegal command words (R102) -/

/-- A word that the decoder rejects ends with IllegalCommand. -/
theorem runWord_of_decode_error {w : CmdWord} {e : DecodeError} (h : decode w = .error e) (s : State) :
    runWord w s = .next (s.raise .illegalCommand) := by
  simp only [runWord, h, execIllegal]

/-- Settles O8: the step takes the word and runs it, and it raises IllegalCommand, whose code is 9. -/
theorem illegalWordWritesOnlyStatus : Obligations.IllegalWordWritesOnlyStatus := by
  intro s w ws e hwf hidle hwords herr
  rw [step_word hwf hidle hwords, runWord_of_decode_error herr, State.raise_eq, ← hidle]
  rfl

end Sys2Proof.Machine

/-! The exceptions family (60_exceptions.md): a wait takes no word (O11), and a command that fails writes its
status only (O14). -/

namespace Sys2Proof.Machine

/-! ### A command in progress and the host (R42, R113) -/

/-- While a command is in progress the host read port answers nothing (R113; log 11). -/
theorem State.hostRead_busy {s : State} (h : s.seq ≠ .idle) (num : BitVec 4) : s.hostRead num = none := if_neg h

/-- A ready poll carries the presented words along, whatever they are. -/
theorem State.readyPoll_setHostWords (s : State) (ws : List CmdWord) (pcnt : Nat) :
    ({ s with hostWords := ws } : State).readyPoll pcnt = { s.readyPoll pcnt with hostWords := ws } := by
  by_cases h : s.answer &&& s.cfg.readyMask = s.cfg.readyValue
  · rw [s.readyPoll_ready pcnt h]
    exact State.readyPoll_ready { s with hostWords := ws } pcnt h
  · cases hl : limitReached s.cfg.readyPollLimit (pcnt + 1) with
    | true =>
      rw [s.readyPoll_limit pcnt h hl]
      exact State.readyPoll_limit { s with hostWords := ws } pcnt h hl
    | false =>
      rw [s.readyPoll_wait pcnt h hl]
      exact State.readyPoll_wait { s with hostWords := ws } pcnt h hl

/-- A TX-done poll carries the presented words along, whatever they are. -/
theorem State.txPoll_setHostWords (s : State) (ws : List CmdWord) (pcnt : Nat) :
    ({ s with hostWords := ws } : State).txPoll pcnt = { s.txPoll pcnt with hostWords := ws } := by
  by_cases h : s.answer &&& s.cfg.txdoneMask = 0
  · rw [s.txPoll_done pcnt h]
    exact State.txPoll_done { s with hostWords := ws } pcnt h
  · cases hl : limitReached s.cfg.txPollLimit (pcnt + 1) with
    | true =>
      rw [s.txPoll_limit pcnt h hl]
      exact State.txPoll_limit { s with hostWords := ws } pcnt h hl
    | false =>
      rw [s.txPoll_wait pcnt h hl]
      exact State.txPoll_wait { s with hostWords := ws } pcnt h hl

/-- A step of a command in progress is one poll, so it carries the presented words along. -/
theorem step_busy_setHostWords {s t : State} (hbusy : s.seq ≠ .idle) (h : step s = .next t) (ws : List CmdWord) :
    step { s with hostWords := ws } = .next { t with hostWords := ws } := by
  obtain ⟨hwf, ⟨hq, -, -⟩ | ⟨hq, -⟩ | ⟨hq, -⟩ | ⟨pcnt, hq, rfl⟩ | ⟨pcnt, hq, rfl⟩⟩ := step_cases h
  · exact absurd hq hbusy
  · exact absurd hq hbusy
  · exact absurd hq hbusy
  · rw [← State.readyPoll_setHostWords]
    exact step_readyWait hwf hq
  · rw [← State.txPoll_setHostWords]
    exact step_txWait hwf hq

/-- Settles O11: a step in a wait carries any presented words along, and so also the ones that are presented. -/
theorem busyBlockTakesNoWord : Obligations.BusyBlockTakesNoWord := by
  intro s t hbusy h
  have hcarry := step_busy_setHostWords hbusy h
  have hsame : t = { t with hostWords := s.hostWords } := Host.Outcome.next.inj (h.symm.trans (hcarry s.hostWords))
  have hwords := congrArg State.hostWords hsame
  exact ⟨hwords, State.hostRead_busy hbusy, hcarry⟩

/-! ### A command that fails (R105, R110)

A poll ends a command with OK or with ChipNotReady only, and whatever else ends with another status than OK is one
`raise` in the state in which the command began. -/

/-- A ready poll that ends RESET ends it with OK or ChipNotReady (R90, R93). -/
theorem State.readyPoll_ends {s : State} {pcnt : Nat} (hq : (s.readyPoll pcnt).seq = .idle) :
    (s.readyPoll pcnt).code = Status.ok.code ∨ (s.readyPoll pcnt).code = Status.chipNotReady.code := by
  rcases s.readyPoll_cases pcnt with ⟨-, h⟩ | ⟨-, h⟩ | ⟨-, h⟩ <;> rw [h] at hq ⊢
  · exact .inl rfl
  · exact .inr rfl
  · exact nomatch hq

/-- A TX-done poll that ends SEND ends it with OK or ChipNotReady (R91, R94). -/
theorem State.txPoll_ends {s : State} {pcnt : Nat} (hq : (s.txPoll pcnt).seq = .idle) :
    (s.txPoll pcnt).code = Status.ok.code ∨ (s.txPoll pcnt).code = Status.chipNotReady.code := by
  rcases s.txPoll_cases pcnt with ⟨-, h⟩ | ⟨-, h⟩ | ⟨-, h⟩ <;> rw [h] at hq ⊢
  · exact .inl rfl
  · exact .inr rfl
  · exact nomatch hq

/-- How a command ends that ends at once: with OK, with ChipNotReady, or in one `raise` and nothing else. -/
theorem exec_ends {i : Instr} {s t : State} (h : exec i s = .next t) (hq : t.seq = .idle) :
    (t.code = Status.ok.code ∨ t.code = Status.chipNotReady.code) ∨ ∃ e, t = s.raise e := by
  cases i with
  | encode target source reqLen =>
    rcases execEncode_cases h with ⟨-, rfl⟩ | ⟨code, wl, -, rfl⟩
    · exact .inr ⟨_, rfl⟩
    · exact .inl (.inl rfl)
  | decode n =>
    rcases execDecode_cases h with ⟨-, rfl⟩ | ⟨-, e, -, rfl⟩ | ⟨-, p, -, rfl⟩
    · exact .inr ⟨_, rfl⟩
    · exact .inr ⟨e, rfl⟩
    · exact .inl (.inl rfl)
  | reset =>
    obtain rfl := execReset_cases h
    exact .inl (State.readyPoll_ends hq)
  | send n =>
    rcases execSend_cases h with ⟨-, rfl⟩ | ⟨-, -, rfl⟩ | ⟨-, -, rfl⟩
    · exact .inr ⟨_, rfl⟩
    · exact .inr ⟨_, rfl⟩
    · exact .inl (State.txPoll_ends hq)
  | receive capacity =>
    rcases execReceive_cases h with ⟨-, rfl⟩ | ⟨-, -, rfl⟩ | ⟨-, -, -, rfl⟩ | ⟨-, -, -, rfl⟩
    · exact .inr ⟨_, rfl⟩
    · exact .inr ⟨_, rfl⟩
    · exact .inl (.inl rfl)
    · exact .inl (.inl rfl)
  | readreg addr =>
    obtain rfl := execReadreg_cases h
    exact .inl (.inl rfl)
  | bufwr sp idx data =>
    rcases execBufwr_cases h with ⟨-, rfl⟩ | ⟨space, -, -, rfl⟩
    · exact .inr ⟨_, rfl⟩
    · exact .inl (.inl rfl)
  | bufrd sp idx =>
    rcases execBufrd_cases h with ⟨-, rfl⟩ | ⟨space, -, -, rfl⟩
    · exact .inr ⟨_, rfl⟩
    · exact .inl (.inl rfl)

/-- How a presented word ends that ends in its step, legal or not. -/
theorem runWord_ends {w : CmdWord} {s t : State} (h : runWord w s = .next t) (hq : t.seq = .idle) :
    (t.code = Status.ok.code ∨ t.code = Status.chipNotReady.code) ∨ ∃ e, t = s.raise e := by
  cases hd : decode w with
  | ok i =>
    rw [runWord, hd] at h
    exact exec_ends h hq
  | error e =>
    rw [runWord_of_decode_error hd, Host.Outcome.next.injEq] at h
    exact .inr ⟨.illegalCommand, h.symm⟩

/-- Settles O14: of the ways a presented word can end, only the `raise` is left, and between commands a `raise`
writes R_STATUS.CODE only. -/
theorem failedCommandWritesOnlyStatus : Obligations.FailedCommandWritesOnlyStatus := by
  intro s t w ws hidle hwords h hq hok hready
  rw [step_word (step_cases h).1 hidle hwords] at h
  rcases runWord_ends h hq with (hc | hc) | ⟨e, rfl⟩
  · exact absurd hc hok
  · exact absurd hc hready
  · rw [State.raise_eq, ← hidle]

end Sys2Proof.Machine

/-! The reset family (70_reset_and_hazards.md): what DRV_STATE is between commands (O19), and that a block with no
word waits (O9). -/

namespace Sys2Proof.Machine

/-! ### DRV_STATE at the end of a command (R87, R124) -/

/-- How a command that polls ends: with OK, the chip in RX, or with ChipNotReady, DRV_STATE UNINIT (R87). -/
def State.PollEnded (t : State) : Prop := (t.code = 0 ∧ t.drv = .rx) ∨ (t.code = 6 ∧ t.drv = .uninit)

/-- A ready poll that ends RESET (R90, R93). -/
theorem State.readyPoll_pollEnded {s : State} {pcnt : Nat} (hq : (s.readyPoll pcnt).seq = .idle) :
    (s.readyPoll pcnt).PollEnded := by
  rcases s.readyPoll_cases pcnt with ⟨-, h⟩ | ⟨-, h⟩ | ⟨-, h⟩ <;> rw [h] at hq ⊢
  · exact .inl ⟨rfl, rfl⟩
  · exact .inr ⟨rfl, rfl⟩
  · exact nomatch hq

/-- A TX-done poll that ends SEND (R91, R94). -/
theorem State.txPoll_pollEnded {s : State} {pcnt : Nat} (hq : (s.txPoll pcnt).seq = .idle) :
    (s.txPoll pcnt).PollEnded := by
  rcases s.txPoll_cases pcnt with ⟨-, h⟩ | ⟨-, h⟩ | ⟨-, h⟩ <;> rw [h] at hq ⊢
  · exact .inl ⟨rfl, rfl⟩
  · exact .inr ⟨rfl, rfl⟩
  · exact nomatch hq

/-- A SEND that ends in its step ends as its first poll does, or a check fails and the driver is untouched. -/
theorem exec_send_ends_drv {n : Byte} {s t : State} (h : exec (.send n) s = .next t) (hq : t.seq = .idle) :
    t.PollEnded ∨ (t.drv = s.drv ∧ t.hist = s.hist) := by
  rcases execSend_cases h with ⟨-, rfl⟩ | ⟨-, -, rfl⟩ | ⟨-, -, rfl⟩
  · exact .inr ⟨rfl, rfl⟩
  · exact .inr ⟨rfl, rfl⟩
  · exact .inl (State.txPoll_pollEnded hq)

/-- A RECEIVE ends with OK in RX, in which it began, or a check fails and the driver is untouched (R95). -/
theorem exec_receive_ends_drv {c : Byte} {s t : State} (h : exec (.receive c) s = .next t) :
    (t.code = 0 ∧ t.drv = .rx) ∨ (t.drv = s.drv ∧ t.hist = s.hist) := by
  rcases execReceive_cases h with ⟨-, rfl⟩ | ⟨-, -, rfl⟩ | ⟨-, hdrv, -, rfl⟩ | ⟨-, -, -, rfl⟩
  · exact .inr ⟨rfl, rfl⟩
  · exact .inr ⟨rfl, rfl⟩
  · exact .inl ⟨rfl, hdrv⟩
  · rw [State.receiveBurst_eq]
    exact .inl ⟨rfl, rfl⟩

/-- A wait that ends in a step ends as its poll does (R113). -/
theorem step_busy_pollEnded {s t : State} (hbusy : s.seq ≠ .idle) (h : step s = .next t) (hq : t.seq = .idle) :
    t.PollEnded := by
  obtain ⟨-, ⟨hs, -, -⟩ | ⟨hs, -⟩ | ⟨hs, -⟩ | ⟨pcnt, -, rfl⟩ | ⟨pcnt, -, rfl⟩⟩ := step_cases h
  · exact absurd hs hbusy
  · exact absurd hs hbusy
  · exact absurd hs hbusy
  · exact State.readyPoll_pollEnded hq
  · exact State.txPoll_pollEnded hq

/-- Settles O19: between commands the invariant of the next state says where DRV_STATE rests; what each command
makes of it is its own lemma, and a wait ends as its last poll does. -/
theorem driverRestsUninitOrRx : Obligations.DriverRestsUninitOrRx := by
  refine ⟨fun s t hs h hq => ?_, fun i s t h hq => ?_, fun s t => step_busy_pollEnded⟩
  · have hinv : Inv t := everyStepKeepsInvariant s t hs h
    exact (State.sequencingOk_idle hq).1 hinv.seqOk
  · cases i with
    | encode target source reqLen => exact (ignoresDrv_encode target source reqLen s t s.drv h).1
    | decode n => exact (ignoresDrv_decode n s t s.drv h).1
    | bufwr sp idx data => exact (ignoresDrv_bufwr sp idx data s t s.drv h).1
    | bufrd sp idx => exact (ignoresDrv_bufrd sp idx s t s.drv h).1
    | reset =>
      obtain rfl := execReset_cases h
      exact State.readyPoll_pollEnded hq
    | send n => exact or_assoc.1 (exec_send_ends_drv h hq)
    | receive capacity => exact exec_receive_ends_drv h
    | readreg addr =>
      obtain rfl := execReadreg_cases h
      rfl

/-! ### No word presented (R122) -/

/-- Settles O9: the rule `step_noWord` for every state. -/
theorem blockWaitsWithoutWord : Obligations.BlockWaitsWithoutWord := fun _ => step_noWord

end Sys2Proof.Machine

/-! The vectors family (95_test_vectors.md): the command words written out there (O6). -/

namespace Sys2Proof

/-- Settles O6: a word decodes to a command exactly when it is the command's encoding, so each written-out word is
compared with the word that the encoder gives. -/
theorem workedWordsDecode : Obligations.WorkedWordsDecode := by
  unfold Obligations.WorkedWordsDecode
  simp only [decode_eq_ok_iff]
  decide

end Sys2Proof
